-- ==== Sys2Proof/Word.lean ====
section
/-! DEFINITION. The word types of the NJD-4S and the names of its links, slots, segments and watches
(spec/00_scope.md section 4, "Conventions"). -/

namespace Sys2Proof

/-- An octet of a frame. -/
abbrev Octet := BitVec 8

/-- A 16-bit field of a frame: an offset, a length, a count − 1, a parameter value. -/
abbrev Half := BitVec 16

/-- A word of the Store, and a result word. -/
abbrev Word := BitVec 32

/-- A tag, chosen by the host for each request. -/
abbrev Tag := BitVec 8

/-- A link number, 0 to 3. -/
abbrev LinkId := Fin 4

/-- The number of a slot within its link, 0 to 7 (R1). -/
abbrev SlotIdx := Fin 8

/-- A segment id, 0 to 63 (R40). -/
abbrev SegmentId := Fin 64

/-- A watch id, 0 to 31 (R129). -/
abbrev WatchId := Fin 32

/-- The links in ascending order. -/
def linkIds : List LinkId := [0, 1, 2, 3]

/-- The slots of one link in ascending order. -/
def slotIdxs : List SlotIdx := [0, 1, 2, 3, 4, 5, 6, 7]

/-- The number of words of the Store (R32). -/
def storeSize : Nat := 65536

end Sys2Proof
end

