-- ==== Sys2Proof/Config.lean ====
section
/-! DEFINITION. What the manual leaves open: free values. Each is an opaque constant applied to the free-value
counter of State (log 8), so that nothing can be proved of a value and each use takes a fresh one. -/

namespace Sys2Proof.Config

/-- The contents of a Store word after an upset, which R34 calls unknown (log 7). -/
opaque upsetContents : Nat → BitVec 32

/-- How far an access abandoned at the fall of RSTN had come: any number of its words (R39, R105; log 6).
The use reduces it to the range the rule allows. -/
opaque abandonedExtent : Nat → Nat

/-- Which of the timer expiries due in one tick is taken first (R15, R23 give either order; log 10). -/
opaque dueChoice : Nat → Nat

/-- The state code QUERY LINK would give for a CLOSED link; R182 lists none, and no query can meet one (log 17). -/
opaque closedLinkCode : Nat → BitVec 32

end Sys2Proof.Config
end

