-- ==== Sys2Proof/Syntax.lean ====
section
/-! DEFINITION. The commands of the NJD-4S: one constructor per row of spec/opcode_table.json.

The rows that say "Request Intake takes a ... frame" carry the link the frame arrives on and the frame
itself: its header fields (`Header`) and its payload octets, so that every refusal of R7 can be reached
through its own row (log 1). What the row's name fixes of the frame (the POST flag of POSTED_WRITE, the
parameter code of the LINKSET rows, the selector code of the QUERY rows) is no operand (log 24). -/

namespace Sys2Proof

/-- The header fields of a request frame beside its kind code (R170): the flags octet, the tag, and the
payload length field as sent. -/
structure Header where
  flags : Octet
  tag : Tag
  length : Half
  deriving DecidableEq, Repr

/-- A request frame without its CRC, as the Inbound Buffer keeps it (R166, R170). -/
structure Frame where
  kind : Octet
  flags : Octet
  tag : Tag
  length : Half
  payload : List Octet
  deriving DecidableEq, Repr

/-- The commands: the events of the part, one for each row of the table. -/
inductive Instr
  /-- POWER_ON (R38): power is applied. -/
  | powerOn
  /-- START_UP_CLEAR_COMPLETE (R38). -/
  | startUpClearComplete
  /-- RSTN_FALL (R189). -/
  | rstnFall
  /-- RSTN_RISE (R190). -/
  | rstnRise
  /-- STORE_UPSET (R34) of the word at a store address. -/
  | storeUpset (address : Half)
  /-- FRAME_BEGIN (R162): an inbound frame begins on a link. -/
  | frameBegin (n : LinkId)
  /-- FRAME_END (R163): the inbound frame in progress on a link ends; its bits in the order taken, CRC included. -/
  | frameEnd (n : LinkId) (bits : List Bool)
  /-- HHLD_RISE (R169). -/
  | hhldRise (n : LinkId)
  /-- HHLD_FALL (R169). -/
  | hhldFall (n : LinkId)
  /-- TRANSMISSION_COMPLETE (R155). -/
  | transmissionComplete (n : LinkId)
  /-- BUDGET_EXPIRY (R14) of the budget timer of slot k of link n. -/
  | budgetExpiry (n : LinkId) (k : SlotIdx)
  /-- HOLD_EXPIRY (R21) of the hold timer of slot k of link n. -/
  | holdExpiry (n : LinkId) (k : SlotIdx)
  /-- DIRECT_ACCESS_COMPLETE (R69). -/
  | directAccessComplete
  /-- STRIDE_COMPLETE (R92): the stride of the RUNNING operation completes. -/
  | strideComplete
  /-- STOPPING_STRIDE_COMPLETE (R103). -/
  | stoppingStrideComplete
  /-- READ (R71). -/
  | read (n : LinkId) (h : Header) (payload : List Octet)
  /-- WRITE (R74), not posted: the POST flag of the header is sent as 0 whatever `h` says. -/
  | write (n : LinkId) (h : Header) (payload : List Octet)
  /-- POSTED_WRITE (R75): the POST flag of the header is sent as 1 whatever `h` says. -/
  | postedWrite (n : LinkId) (h : Header) (payload : List Octet)
  /-- EXCHANGE (R77). -/
  | exchange (n : LinkId) (h : Header) (payload : List Octet)
  /-- COPY (R110). -/
  | copy (n : LinkId) (h : Header) (payload : List Octet)
  /-- FIND (R114). -/
  | find (n : LinkId) (h : Header) (payload : List Octet)
  /-- FOLD (R117). -/
  | fold (n : LinkId) (h : Header) (payload : List Octet)
  /-- APPLY (R119). -/
  | apply (n : LinkId) (h : Header) (payload : List Octet)
  /-- MAP (R122). -/
  | map (n : LinkId) (h : Header) (payload : List Octet)
  /-- CLAIM (R22). -/
  | claim (n : LinkId) (h : Header) (payload : List Octet)
  /-- CANCEL (R24). -/
  | cancel (n : LinkId) (h : Header) (payload : List Octet)
  /-- WATCH (R130). -/
  | watch (n : LinkId) (h : Header) (payload : List Octet)
  /-- REARM (R137). -/
  | rearm (n : LinkId) (h : Header) (payload : List Octet)
  /-- UNWATCH (R138). -/
  | unwatch (n : LinkId) (h : Header) (payload : List Octet)
  /-- DEFINE (R44). -/
  | define (n : LinkId) (h : Header) (payload : List Octet)
  /-- DROP (R46). -/
  | drop (n : LinkId) (h : Header) (payload : List Octet)
  /-- LINKSET with parameter BUDGET (R179): the target octet, and the octets after the parameter code. -/
  | linksetBudget (n : LinkId) (h : Header) (target : Octet) (value : List Octet)
  /-- LINKSET with parameter HOLD (R179). -/
  | linksetHold (n : LinkId) (h : Header) (target : Octet) (value : List Octet)
  /-- LINKSET with parameter NOTIFY (R179). -/
  | linksetNotify (n : LinkId) (h : Header) (target : Octet) (value : List Octet)
  /-- LINKSET with parameter PRIORITY (R179). -/
  | linksetPriority (n : LinkId) (h : Header) (target : Octet) (value : List Octet)
  /-- LINKSET with parameter ADMIN (R179). -/
  | linksetAdmin (n : LinkId) (h : Header) (target : Octet) (value : List Octet)
  /-- QUERY with selector PART (R182): the octets after the selector code. -/
  | queryPart (n : LinkId) (h : Header) (argument : List Octet)
  /-- QUERY with selector LINK (R182). -/
  | queryLink (n : LinkId) (h : Header) (argument : List Octet)
  /-- QUERY with selector SLOTS (R183). -/
  | querySlots (n : LinkId) (h : Header) (argument : List Octet)
  /-- QUERY with selector SEGMENT (R183). -/
  | querySegment (n : LinkId) (h : Header) (argument : List Octet)
  /-- QUERY with selector WATCHES (R144). -/
  | queryWatches (n : LinkId) (h : Header) (argument : List Octet)
  /-- LINKRESET (R184). -/
  | linkreset (n : LinkId) (h : Header) (payload : List Octet)
  /-- RESTART (R187). -/
  | restart (n : LinkId) (h : Header) (payload : List Octet)
  /-- UNKNOWN_KIND_FRAME (R171): a frame whose kind code is no request kind. -/
  | unknownKindFrame (n : LinkId) (kind : Octet) (h : Header) (payload : List Octet)
  /-- IFR_SEEN_LOW (R162): the first rising edge of ICKn at which IFRn is low. -/
  | ifrSeenLow (n : LinkId)
  /-- LINKSET_UNKNOWN_PARAMETER (R179): a parameter code over 4, or a payload too short to carry one. -/
  | linksetUnknownParameter (n : LinkId) (h : Header) (payload : List Octet)
  /-- QUERY_UNKNOWN_SELECTOR (R181): a selector code over 4, or a payload too short to carry one. -/
  | queryUnknownSelector (n : LinkId) (h : Header) (payload : List Octet)
  deriving DecidableEq, Repr

end Sys2Proof
end

