-- ==== Sys2Proof/WellFormed.lean ====
section
/-! DEFINITION. Which commands are well formed: the frame a request row carries is one the part can take whole
(R163) and belongs to that row. An ill-formed request row still runs: its frame is treated as what it is. -/

namespace Sys2Proof

/-- The request kind codes of R172. -/
def requestCodes : List Octet :=
  [0x10, 0x11, 0x12, 0x20, 0x21, 0x22, 0x23, 0x24, 0x30, 0x31, 0x40, 0x41, 0x42,
   0x50, 0x51, 0x52, 0x53, 0x54, 0x55]

/-- A frame's payload has at most 260 octets (R163, R170). -/
def payloadFits (octets : Nat) : Bool := decide (octets ≤ 260)

/-- The parameter code of a LINKSET payload is unknown: greater than 4, or not there (R175, R179). -/
def unknownParameter (payload : List Octet) : Bool :=
  match payload[1]? with
  | some c => decide (4 < c.toNat)
  | none => true

/-- The selector code of a QUERY payload is unknown: greater than 4, or not there (R175, R181). -/
def unknownSelector (payload : List Octet) : Bool :=
  match payload[0]? with
  | some c => decide (4 < c.toNat)
  | none => true

/-- A command is well formed when its frame, if it carries one, fits and belongs to its row. -/
def Instr.wellFormed : Instr → Bool
  | .powerOn | .startUpClearComplete | .rstnFall | .rstnRise | .storeUpset _ => true
  | .frameBegin _ | .frameEnd _ _ | .hhldRise _ | .hhldFall _ | .transmissionComplete _ => true
  | .budgetExpiry _ _ | .holdExpiry _ _ => true
  | .directAccessComplete | .strideComplete | .stoppingStrideComplete | .ifrSeenLow _ => true
  | .write _ h p => !h.flags.getLsbD 0 && payloadFits p.length
  | .postedWrite _ h p => h.flags.getLsbD 0 && payloadFits p.length
  | .read _ _ p | .exchange _ _ p | .copy _ _ p | .find _ _ p | .fold _ _ p | .apply _ _ p | .map _ _ p =>
    payloadFits p.length
  | .claim _ _ p | .cancel _ _ p | .watch _ _ p | .rearm _ _ p | .unwatch _ _ p => payloadFits p.length
  | .define _ _ p | .drop _ _ p | .linkreset _ _ p | .restart _ _ p => payloadFits p.length
  | .linksetBudget _ _ _ v | .linksetHold _ _ _ v | .linksetNotify _ _ _ v | .linksetPriority _ _ _ v
  | .linksetAdmin _ _ _ v => payloadFits (v.length + 2)
  | .queryPart _ _ a | .queryLink _ _ a | .querySlots _ _ a | .querySegment _ _ a | .queryWatches _ _ a =>
    payloadFits (a.length + 1)
  | .unknownKindFrame _ k _ p => !requestCodes.contains k && payloadFits p.length
  | .linksetUnknownParameter _ _ p => unknownParameter p && payloadFits p.length
  | .queryUnknownSelector _ _ p => unknownSelector p && payloadFits p.length

end Sys2Proof
end

