-- ==== Sys2Proof/Decode.lean ====
section
/-! DEFINITION. Commands and frames: the frame a request row puts on its link, the row a frame belongs to, and
`decodeTableWord`. No row of spec/opcode_table.json has bits, so no word spells a command (log 25). The frame
layouts are those of R170 to R175. -/

namespace Sys2Proof

/-- The command that a word spells by the table's bits: the table gives no row any bits (log 25). -/
def decodeTableWord (_nbits _w : Nat) : Option Instr := none

/-- A request frame with a kind code, the header fields and a payload. -/
def Header.frame (h : Header) (kind : Octet) (payload : List Octet) : Frame :=
  { kind := kind, flags := h.flags, tag := h.tag, length := h.length, payload := payload }

/-- The header with its POST flag (octet 1, bit 0; R170) cleared. -/
def Header.unposted (h : Header) : Header := { h with flags := h.flags &&& 0xFE }

/-- The header with its POST flag set. -/
def Header.posted (h : Header) : Header := { h with flags := h.flags ||| 0x01 }

/-- The header fields of a frame. -/
def Frame.header (f : Frame) : Header := { flags := f.flags, tag := f.tag, length := f.length }

/-- The frame a command puts on a link, for the rows that carry one (kind codes of R172, the parameter and
selector codes of R175). -/
def Instr.frame : Instr → Option (LinkId × Frame)
  | .powerOn | .startUpClearComplete | .rstnFall | .rstnRise | .storeUpset _ => none
  | .frameBegin _ | .frameEnd _ _ | .hhldRise _ | .hhldFall _ | .transmissionComplete _ => none
  | .budgetExpiry _ _ | .holdExpiry _ _ => none
  | .directAccessComplete | .strideComplete | .stoppingStrideComplete | .ifrSeenLow _ => none
  | .read n h p => some (n, h.frame 0x10 p)
  | .write n h p => some (n, h.unposted.frame 0x11 p)
  | .postedWrite n h p => some (n, h.posted.frame 0x11 p)
  | .exchange n h p => some (n, h.frame 0x12 p)
  | .copy n h p => some (n, h.frame 0x20 p)
  | .find n h p => some (n, h.frame 0x21 p)
  | .fold n h p => some (n, h.frame 0x22 p)
  | .apply n h p => some (n, h.frame 0x23 p)
  | .map n h p => some (n, h.frame 0x24 p)
  | .claim n h p => some (n, h.frame 0x30 p)
  | .cancel n h p => some (n, h.frame 0x31 p)
  | .watch n h p => some (n, h.frame 0x40 p)
  | .rearm n h p => some (n, h.frame 0x41 p)
  | .unwatch n h p => some (n, h.frame 0x42 p)
  | .define n h p => some (n, h.frame 0x50 p)
  | .drop n h p => some (n, h.frame 0x51 p)
  | .linksetBudget n h t v => some (n, h.frame 0x52 (t :: 0 :: v))
  | .linksetHold n h t v => some (n, h.frame 0x52 (t :: 1 :: v))
  | .linksetNotify n h t v => some (n, h.frame 0x52 (t :: 2 :: v))
  | .linksetPriority n h t v => some (n, h.frame 0x52 (t :: 3 :: v))
  | .linksetAdmin n h t v => some (n, h.frame 0x52 (t :: 4 :: v))
  | .queryPart n h a => some (n, h.frame 0x53 (0 :: a))
  | .queryLink n h a => some (n, h.frame 0x53 (1 :: a))
  | .querySlots n h a => some (n, h.frame 0x53 (2 :: a))
  | .querySegment n h a => some (n, h.frame 0x53 (3 :: a))
  | .queryWatches n h a => some (n, h.frame 0x53 (4 :: a))
  | .linkreset n h p => some (n, h.frame 0x54 p)
  | .restart n h p => some (n, h.frame 0x55 p)
  | .unknownKindFrame n k h p => some (n, h.frame k p)
  | .linksetUnknownParameter n h p => some (n, h.frame 0x52 p)
  | .queryUnknownSelector n h p => some (n, h.frame 0x53 p)

/-- The LINKSET row a LINKSET payload belongs to, by its parameter code (R175). -/
def linksetRow (n : LinkId) (h : Header) (payload : List Octet) : Instr :=
  match payload with
  | t :: c :: v =>
    if c = 0 then .linksetBudget n h t v
    else if c = 1 then .linksetHold n h t v
    else if c = 2 then .linksetNotify n h t v
    else if c = 3 then .linksetPriority n h t v
    else if c = 4 then .linksetAdmin n h t v
    else .linksetUnknownParameter n h payload
  | _ => .linksetUnknownParameter n h payload

/-- The QUERY row a QUERY payload belongs to, by its selector code (R175). -/
def queryRow (n : LinkId) (h : Header) (payload : List Octet) : Instr :=
  match payload with
  | c :: a =>
    if c = 0 then .queryPart n h a
    else if c = 1 then .queryLink n h a
    else if c = 2 then .querySlots n h a
    else if c = 3 then .querySegment n h a
    else if c = 4 then .queryWatches n h a
    else .queryUnknownSelector n h payload
  | [] => .queryUnknownSelector n h payload

/-- The row a request frame belongs to, by its kind code (R172) and what its row's name fixes. -/
def Instr.ofFrame (n : LinkId) (f : Frame) : Instr :=
  if f.kind = 0x10 then .read n f.header f.payload
  else if f.kind = 0x11 then
    (if f.flags.getLsbD 0 then .postedWrite n f.header f.payload else .write n f.header f.payload)
  else if f.kind = 0x12 then .exchange n f.header f.payload
  else if f.kind = 0x20 then .copy n f.header f.payload
  else if f.kind = 0x21 then .find n f.header f.payload
  else if f.kind = 0x22 then .fold n f.header f.payload
  else if f.kind = 0x23 then .apply n f.header f.payload
  else if f.kind = 0x24 then .map n f.header f.payload
  else if f.kind = 0x30 then .claim n f.header f.payload
  else if f.kind = 0x31 then .cancel n f.header f.payload
  else if f.kind = 0x40 then .watch n f.header f.payload
  else if f.kind = 0x41 then .rearm n f.header f.payload
  else if f.kind = 0x42 then .unwatch n f.header f.payload
  else if f.kind = 0x50 then .define n f.header f.payload
  else if f.kind = 0x51 then .drop n f.header f.payload
  else if f.kind = 0x52 then linksetRow n f.header f.payload
  else if f.kind = 0x53 then queryRow n f.header f.payload
  else if f.kind = 0x54 then .linkreset n f.header f.payload
  else if f.kind = 0x55 then .restart n f.header f.payload
  else .unknownKindFrame n f.kind f.header f.payload

end Sys2Proof
end

