-- ==== Sys2Proof/Machine/State.lean ====
section
/-! DEFINITION. The state of the NJD-4S as plain data, the machine right after reset, and the reasons a step can
stop. INVENTORY.md lists every field with the rule that names it. What the spec defines from other state (the Engine
Queue, the claims held, the free places of a Reply List, PHLDn) is computed, not stored (log 13, log 14). -/

namespace Sys2Proof.Machine

/-! ### Requests and slots -/

/-- The status of an ANSWER or of an outcome (R172). -/
inductive Status
  | ok | notFound | mismatch | cancelled | storeFault
  | badKind | badLen | badArg | notAdmin | dupTag | noSlot | noSeg | outside | denied
  | badRange | inUse | noRoom | noTag | noWatch | busy
  deriving DecidableEq, Repr

/-- FIND's tests (R114). -/
inductive FindTest
  | eq | ne | lt | gt | anyset | noneset
  deriving DecidableEq, Repr

/-- FOLD's functions (R117). -/
inductive FoldFn
  | sum | xor | or | and
  deriving DecidableEq, Repr

/-- APPLY's functions (R119). -/
inductive ApplyFn
  | set | or | and | xor | add
  deriving DecidableEq, Repr

/-- MAP's modes (R122). -/
inductive MapMode
  | low | all
  deriving DecidableEq, Repr

/-- An operand as a request frame names it: a segment id octet, an offset, and the count it covers. -/
structure Ref where
  segment : Octet
  offset : Nat
  count : Nat
  deriving DecidableEq, Repr

/-- An operand of an admitted request: as sent, with the store range translated from it (R2, R9). -/
structure Operand where
  segment : Octet
  offset : Nat
  count : Nat
  first : Nat
  deriving DecidableEq, Repr

/-- The kind of a data request with its operands and parameters (R2, R106). -/
inductive Job (α : Type)
  | read (range : α)
  | write (range : α)
  | exchange (word : α) (compare mask new : Word)
  | copy (source destination : α)
  | find (range : α) (test : FindTest) (value mask : Word)
  | fold (range : α) (function : FoldFn) (initial : Word)
  | apply (range : α) (function : ApplyFn) (operand : Word)
  | map (range table : α) (mode : MapMode)
  deriving DecidableEq, Repr

/-- The life states of a slot that is not FREE (R5); a FREE slot is an empty entry. -/
inductive SlotState
  | waiting | queued | running | suspended | stopping | held
  deriving DecidableEq, Repr

/-- What the host has been told (R6). -/
inductive Phase
  | unanswered | deferred | silent
  deriving DecidableEq, Repr

/-- The order in which a COPY takes its positions (R110). -/
inductive Direction
  | upward | downward
  deriving DecidableEq, Repr

/-- The progress of a block operation (R108). A direct request's cursor stays at its starting value (log 26). -/
structure Cursor where
  done : Nat
  next : Nat
  acc : Word
  dir : Direction
  deriving DecidableEq, Repr

/-- The outcome of a request: a status and result words (R16). -/
structure Outcome where
  status : Status
  words : List Word
  deriving DecidableEq, Repr

/-- The record of a slot that is not FREE (R2). `reserved` is the request's reserved place in its link's
Reply List (R146); the timers hold the ticks left (R13, R20). -/
structure Slot where
  state : SlotState
  phase : Phase
  tag : Tag
  job : Job Operand
  admission : Nat
  priority : Fin 4
  data : List Word
  cursor : Cursor
  cancelMark : Bool
  outcome : Option Outcome
  reserved : Bool
  budgetTimer : Option Nat
  holdTimer : Option Nat
  deriving DecidableEq, Repr

/-- A slot of the part: its link and its number within the link (R1). -/
structure SlotId where
  link : LinkId
  idx : SlotIdx
  deriving DecidableEq, Repr

/-! ### Replies and notices -/

/-- A reply frame (R149, R150). -/
inductive Reply
  | answer (status : Status) (tag : Tag) (words : List Word)
  | deferred (tag : Tag)
  | pending (tag : Tag)
  deriving DecidableEq, Repr

/-- The data request kinds, as READY and DROPPED carry them (R154). -/
inductive DataKind
  | read | write | exchange | copy | find | fold | apply | map
  deriving DecidableEq, Repr

/-- Why a received frame was discarded (R163, R162). -/
inductive BadFrame
  | check | short | long | overrun
  deriving DecidableEq, Repr

/-- The cause of a RESTARTED notice (R154). -/
inductive RestartCause
  | power | pin | restart | linkreset
  deriving DecidableEq, Repr

/-- A notice frame (R154). -/
inductive Notice
  | ready (tag : Tag) (kind : DataKind) (status : Status)
  | dropped (tag : Tag) (kind : DataKind)
  | changed (watch : WatchId) (writer : LinkId) (offset : Nat)
  | watchgone (watch : WatchId) (segment : SegmentId)
  | overflow (lost : Nat)
  | badframe (reason : BadFrame) (count : Nat)
  | restarted (cause : RestartCause) (by_ : LinkId)
  deriving DecidableEq, Repr

/-! ### Links -/

/-- The request that a RESETTING link's reset belongs to: a LINKRESET with its requester and tag, or a
RESTART with its requester (R184, R187). -/
inductive ResetCause
  | linkreset (requester : LinkId) (tag : Tag)
  | restart (requester : LinkId)
  deriving DecidableEq, Repr

/-- The link states (R180). An AWAITING link keeps the link whose reset it awaits. -/
inductive LinkStatus
  | closed
  | opened
  | awaiting (target : LinkId)
  | resetting (cause : ResetCause)
  deriving DecidableEq, Repr

/-- The receiver states (R162). -/
inductive Receiver
  | closed | idle | assembling | skipping
  deriving DecidableEq, Repr

/-- The transmitter: free, or sending the first frame of the Reply List or of the Notice Queue (R155). -/
inductive Transmitter
  | free | reply | notice
  deriving DecidableEq, Repr

/-- The line OFRn (R160, R161, R168): low; low since the end of a frame, two periods of OCKn not yet known to have passed;
or high. -/
inductive OutLine
  | low | gap | high
  deriving DecidableEq, Repr

/-- What the part keeps for one link: Link Interface, parameters and counters (R178), slots, Reply List,
Notice Queue, transmitter and Outbound Arbiter. -/
structure Link where
  status : LinkStatus
  receiver : Receiver
  inbox : List Frame
  budget : Half
  hold : Half
  notify : Bool
  priority : Fin 4
  admin : Bool
  badFrames : Nat
  lost : Nat
  dropped : Nat
  slots : Vector (Option Slot) 8
  replies : List Reply
  notices : List Notice
  transmitter : Transmitter
  outLine : OutLine
  streak : Nat
  hostHold : Bool
  deriving DecidableEq, Repr

/-! ### Segments, Store, Store Port, watches -/

/-- A right on a segment (R42). -/
inductive Right
  | none | read | write
  deriving DecidableEq, Repr

/-- A defined entry of the Segment Table (R40). -/
structure Segment where
  base : Nat
  length : Nat
  rights : Vector Right 4
  deriving DecidableEq, Repr

/-- A word of the Store: its contents, and whether its check bit agrees with them (R32). -/
structure StoreWord where
  contents : Word
  sound : Bool
  deriving DecidableEq, Repr

/-- The Store: the words that differ from a sound 0, by strictly rising store address (R32, R38). -/
abbrev Store := List (Nat × StoreWord)

/-- A direct access: the slot it was started for, whether that slot still waits for it (a reset may free the
slot meanwhile, R68), and the request it performs. -/
structure DirectAccess where
  owner : SlotId
  live : Bool
  job : Job Operand
  data : List Word
  deriving DecidableEq, Repr

/-- A stride: the slot it is made for, its first position and its size, fixed when it is asked for (R89). -/
structure Stride where
  owner : SlotId
  start : Nat
  size : Nat
  deriving DecidableEq, Repr

/-- The Store Port (R32, R62). -/
inductive Port
  | idle
  | clear
  | direct (access : DirectAccess)
  | stride (stride : Stride)
  deriving DecidableEq, Repr

/-- The last-served marker (R63). -/
inductive Marker
  | direct | engine
  deriving DecidableEq, Repr

/-- Which writes a watch counts (R129). -/
inductive WatchMode
  | write | change
  deriving DecidableEq, Repr

/-- A watch in use (R129); `fired` is its state. -/
structure Watch where
  owner : LinkId
  segment : SegmentId
  offset : Nat
  count : Nat
  first : Nat
  mode : WatchMode
  selfOn : Bool
  fired : Bool
  missed : Nat
  deriving DecidableEq, Repr

end Sys2Proof.Machine

namespace Sys2Proof.Machine

/-- The state of the part, with the commands that wait (`pending`, log 23) and the counter of free values
taken (`freeCount`, log 8), which are the model's own. -/
structure State where
  rstn : Bool
  opened : Bool
  links : Vector Link 4
  admissions : Nat
  segments : Vector (Option Segment) 64
  watches : Vector (Option Watch) 32
  store : Store
  faults : Nat
  port : Port
  marker : Marker
  stride : Option Stride
  freeCount : Nat
  pending : List Instr
  deriving DecidableEq, Repr

/-- Why the machine stops with a fault. -/
inductive Fault
  /-- Raised by the completion or the abandonment of an access that names a store address outside 0 to 65,535:
  no such word exists (R32). No run from reset raises it, since translation keeps every operand inside the Store
  (R43). Safe: the model stops. -/
  | outsideStore
  deriving DecidableEq, Repr

/-- Why the machine refuses a command. -/
inductive Refusal
  /-- Raised by no arm of `exec`: every command of the table has its meaning. It names a command without one.
  Safe: the model stops. -/
  | notModelled (mnemonic : String)
  deriving DecidableEq, Repr

/-- Link n after power-on and after RSTN (R178, R180, R162), with the level of its input line HHLDn. Its OFRn is low and not in
the gap after a frame: whether R161's two periods are owed to a frame that RSTN cut short is open, and the model says they are
not (log 28). -/
def Link.atReset (n : LinkId) (hostHold : Bool) : Link :=
  { status := .closed, receiver := .closed, inbox := []
    budget := 200, hold := 50, notify := true, priority := 1, admin := decide (n = 0)
    badFrames := 0, lost := 0, dropped := 0
    slots := Vector.replicate 8 none
    replies := [], notices := [], transmitter := .free, outLine := .low, streak := 0, hostHold := hostHold }

/-- Segment 0 after power-on and after RSTN (R41). -/
def segmentZero : Segment :=
  { base := 0, length := 65536, rights := #v[.write, .none, .none, .none] }

/-- The Segment Table after power-on and after RSTN (R41). -/
def segmentsAtReset : Vector (Option Segment) 64 :=
  (Vector.replicate 64 none).set 0 (some segmentZero)

/-- The machine right after reset: power has been applied and the start-up clear is in progress (R38).
The levels of the input lines RSTN and HHLDn are log 4; the Store is log 5; the free-value counter is log 8. -/
def State.reset : State :=
  { rstn := true
    opened := false
    links := Vector.ofFn fun n => Link.atReset n false
    admissions := 0
    segments := segmentsAtReset
    watches := Vector.replicate 32 none
    store := []
    faults := 0
    port := .clear
    marker := .engine
    stride := none
    freeCount := 0
    pending := [] }

end Sys2Proof.Machine
end

