-- ==== Sys2Proof/Machine/Ops.lean ====
section
/-! DEFINITION. The named operations over State: links and slots, the Store, counters, Reply Lists, Notice Queues. -/

namespace Sys2Proof.Machine

/-! ### Links and slots -/

/-- Link n's part of the state. -/
def State.link (s : State) (n : LinkId) : Link := s.links[n]

/-- Put link n's part. -/
def State.setLink (s : State) (n : LinkId) (l : Link) : State := { s with links := s.links.set n l }

/-- Change link n's part. -/
def State.updLink (s : State) (n : LinkId) (f : Link → Link) : State := s.setLink n (f (s.link n))

/-- Change every link's part. -/
def State.mapLinks (s : State) (f : LinkId → Link → Link) : State :=
  { s with links := Vector.ofFn fun n => f n (s.link n) }

/-- Slot k of a link: empty when FREE. -/
def Link.slot (l : Link) (k : SlotIdx) : Option Slot := l.slots[k]

/-- Put slot k of a link. -/
def Link.setSlot (l : Link) (k : SlotIdx) (v : Option Slot) : Link := { l with slots := l.slots.set k v }

/-- A slot of the part. -/
def State.slot (s : State) (i : SlotId) : Option Slot := (s.link i.link).slot i.idx

/-- Put a slot of the part. -/
def State.setSlot (s : State) (i : SlotId) (v : Option Slot) : State :=
  s.updLink i.link fun l => l.setSlot i.idx v

/-- The 32 slots of the part, by link and number. -/
def allSlots : List SlotId := linkIds.flatMap fun n => slotIdxs.map fun k => ⟨n, k⟩

/-- The slots that are not FREE, with their records. -/
def State.busySlots (s : State) : List (SlotId × Slot) :=
  allSlots.filterMap fun i => (s.slot i).map fun sl => (i, sl)

/-- The slots of link n that are not FREE, with their records, by number. -/
def State.busyOn (s : State) (n : LinkId) : List (SlotIdx × Slot) :=
  slotIdxs.filterMap fun k => (s.slot ⟨n, k⟩).map fun sl => (k, sl)

/-- The lowest-numbered FREE slot of link n (R1). -/
def State.lowestFree (s : State) (n : LinkId) : Option SlotIdx :=
  slotIdxs.find? fun k => (s.slot ⟨n, k⟩).isNone

/-- The slot of link n that is not FREE and carries a tag (R3, R22). -/
def State.slotWithTag (s : State) (n : LinkId) (tag : Tag) : Option (SlotIdx × Slot) :=
  (s.busyOn n).find? fun p => p.2.tag = tag

/-! ### Counters -/

/-- The maximum of the link counters and of the store-fault count (00_scope.md section 4, "Counters"). -/
def counterMax : Nat := 65535

/-- The maximum of a watch's missed count (R129). -/
def missedMax : Nat := 255

/-- Count one more, holding at the maximum (00_scope.md section 4, "Counters"). -/
def countUp (max n : Nat) : Nat := min (n + 1) max

/-! ### The Store (R32, R33, R37, R38) -/

/-- What a store address that is not listed holds: 0, sound, as the start-up clear leaves it (R38). -/
def clearedWord : StoreWord := { contents := 0, sound := true }

/-- The word at a store address. -/
def Store.at : Store → Nat → StoreWord
  | [], _ => clearedWord
  | (k, w) :: rest, a => if k = a then w else Store.at rest a

/-- Put the word at a store address, keeping the one form: addresses rising, no entry equal to `clearedWord`. -/
def Store.put : Store → Nat → StoreWord → Store
  | [], a, w => if w = clearedWord then [] else [(a, w)]
  | (k, v) :: rest, a, w =>
    if a < k then (if w = clearedWord then (k, v) :: rest else (a, w) :: (k, v) :: rest)
    else if a = k then (if w = clearedWord then rest else (a, w) :: rest)
    else (k, v) :: Store.put rest a w

/-- The store addresses of a list rise strictly from `low` on and lie below 65,536; no entry is `clearedWord`. -/
def Store.wfFrom : Nat → Store → Bool
  | _, [] => true
  | low, (k, w) :: rest => decide (low ≤ k) && decide (k < storeSize) && decide (w ≠ clearedWord) && Store.wfFrom (k + 1) rest

/-- The one form of a Store. -/
def Store.wf (st : Store) : Bool := Store.wfFrom 0 st

/-- Read a word: none when it is damaged, which is a store fault (R32, R35). -/
def Store.read (st : Store) (a : Nat) : Option Word :=
  if (st.at a).sound then some (st.at a).contents else none

/-- Write a word: it takes the value and is sound (R32, R37). -/
def Store.write (st : Store) (a : Nat) (v : Word) : Store := st.put a { contents := v, sound := true }

/-- Whether a write of `v` counts as a change of the word (R80). -/
def Store.changes (st : Store) (a : Nat) (v : Word) : Bool :=
  !(st.at a).sound || decide ((st.at a).contents ≠ v)

/-- An upset: a sound word becomes damaged with the given contents; a damaged word stays as it is (R34). -/
def Store.upset (st : Store) (a : Nat) (contents : Word) : Store :=
  if (st.at a).sound then st.put a { contents := contents, sound := false } else st

/-! ### Reply Lists (R145 to R148) -/

/-- The places of a Reply List (R145). -/
def replyPlaces : Nat := 12

/-- The reserved places of a link's Reply List: those its slots own (R146). -/
def Link.reservedPlaces (l : Link) : Nat :=
  slotIdxs.countP fun k => (l.slot k).any fun sl => sl.reserved

/-- The free places of a link's Reply List (R145). -/
def Link.freePlaces (l : Link) : Nat := replyPlaces - (l.replies.length + l.reservedPlaces)

/-- Place a reply: it joins the placement order behind every frame placed already (R148). -/
def Link.placeReply (l : Link) (r : Reply) : Link := { l with replies := l.replies ++ [r] }

/-- Place a reply in link n's list. -/
def State.placeReply (s : State) (n : LinkId) (r : Reply) : State := s.updLink n fun l => l.placeReply r

/-! ### Notice Queues (R151, R152) -/

/-- The size of a Notice Queue (R151). -/
def noticeRoom : Nat := 16

/-- The link is RESETTING (R180). -/
def Link.isResetting (l : Link) : Bool :=
  match l.status with
  | .resetting _ => true
  | _ => false

/-- Queue a notice: discarded while the link is RESETTING (R151), lost and counted when the queue is full
(R152), else behind the others. -/
def Link.queueNotice (l : Link) (m : Notice) : Link :=
  if l.isResetting then l
  else if noticeRoom ≤ l.notices.length then { l with lost := countUp counterMax l.lost }
  else { l with notices := l.notices ++ [m] }

/-- Queue a notice to link n. -/
def State.queueNotice (s : State) (n : LinkId) (m : Notice) : State := s.updLink n fun l => l.queueNotice m

end Sys2Proof.Machine
end

