-- ==== Sys2Proof/Machine/Flags.lean ====
section
/-! DEFINITION. Conditions and lines computed from the state: the engine's condition (R82), the part-hold lines
(R167), what a Request Intake may do (R147, R166). -/

namespace Sys2Proof.Machine

/-- The start-up clear is in progress (R38). -/
def State.clearing (s : State) : Bool := decide (s.port = .clear)

/-- PHLDn is asserted (R167). -/
def State.partHold (s : State) (n : LinkId) : Bool :=
  decide (2 ≤ (s.link n).inbox.length) || !s.rstn || s.clearing

/-- OFRn is high (R160, R168). -/
def State.outFrame (s : State) (n : LinkId) : Bool := decide ((s.link n).outLine = .high)

/-- A slot of link n is STOPPING (R185). -/
def State.stoppingOn (s : State) (n : LinkId) : Bool :=
  (s.busyOn n).any fun p => decide (p.2.state = .stopping)

/-- A slot of the part is STOPPING (R188). -/
def State.stopping (s : State) : Bool := linkIds.any fun n => s.stoppingOn n

/-- The engine is RUNNING or STOPPING; otherwise it is IDLE (R82). -/
def State.engineBusy (s : State) : Bool :=
  s.busySlots.any fun p => decide (p.2.state = .running) || decide (p.2.state = .stopping)

/-- A direct access for a WAITING slot of link n is in progress (R66). -/
def State.directBusy (s : State) (n : LinkId) : Bool :=
  match s.port with
  | .direct a => a.live && decide (a.owner.link = n)
  | _ => false

/-- Request Intake n may take a frame (R147, R166): link n is OPEN, its Reply List has a free place, no direct
access for a WAITING slot of link n is in progress, RSTN is high and no start-up clear is in progress. -/
def State.intakeAble (s : State) (n : LinkId) : Bool :=
  decide ((s.link n).status = .opened) && decide (0 < (s.link n).freePlaces) && !s.directBusy n && s.rstn
    && !s.clearing

/-- A frame that Request Intake n may take waits in its Inbound Buffer (R166). -/
def State.intakeWaits (s : State) (n : LinkId) : Bool := !(s.link n).inbox.isEmpty && s.intakeAble n

end Sys2Proof.Machine
end

