-- ==== Sys2Proof/Machine/Octets.lean ====
section
/-! DEFINITION. Octets, words and bits as frames carry them: most significant octet first, most significant bit
first (00_scope.md section 4, R160, R170). -/

namespace Sys2Proof.Machine

/-- The 16-bit field of two octets. -/
def half (hi lo : Octet) : Half := hi ++ lo

/-- The word of four octets. -/
def word (a b c d : Octet) : Word := a ++ b ++ c ++ d

/-- The two octets of a 16-bit field. -/
def halfOctets (h : Half) : List Octet := [h.extractLsb' 8 8, h.extractLsb' 0 8]

/-- The four octets of a word. -/
def wordOctets (w : Word) : List Octet :=
  [w.extractLsb' 24 8, w.extractLsb' 16 8, w.extractLsb' 8 8, w.extractLsb' 0 8]

/-- The octets of a list of words, in order. -/
def wordsOctets (ws : List Word) : List Octet := ws.flatMap wordOctets

/-- The words that a list of octets spells, if it is a whole number of them. -/
def wordsOf : List Octet → Option (List Word)
  | [] => some []
  | a :: b :: c :: d :: rest => (wordsOf rest).map fun ws => word a b c d :: ws
  | _ => none

/-- The eight bits of an octet, most significant first. -/
def octetBits (o : Octet) : List Bool :=
  [o.getLsbD 7, o.getLsbD 6, o.getLsbD 5, o.getLsbD 4, o.getLsbD 3, o.getLsbD 2, o.getLsbD 1, o.getLsbD 0]

/-- The bits of a list of octets in the order a link carries them. -/
def bitsOf (os : List Octet) : List Bool := os.flatMap octetBits

/-- The octet of eight bits, most significant first. -/
def octetOf (b7 b6 b5 b4 b3 b2 b1 b0 : Bool) : Octet :=
  BitVec.ofBool b7 ++ BitVec.ofBool b6 ++ BitVec.ofBool b5 ++ BitVec.ofBool b4
    ++ BitVec.ofBool b3 ++ BitVec.ofBool b2 ++ BitVec.ofBool b1 ++ BitVec.ofBool b0

/-- The octets that a list of bits spells: every eight bits make one (R160); bits short of an octet are left. -/
def octetsOf : List Bool → List Octet
  | b7 :: b6 :: b5 :: b4 :: b3 :: b2 :: b1 :: b0 :: rest => octetOf b7 b6 b5 b4 b3 b2 b1 b0 :: octetsOf rest
  | _ => []

/-- A whole word that carries a number (R176): its value in the least significant octets. -/
def numWord (n : Nat) : Word := BitVec.ofNat 32 n

/-- A word made of four numbers, one an octet, the first most significant (R183). -/
def packWord (a b c d : Nat) : Word :=
  word (BitVec.ofNat 8 a) (BitVec.ofNat 8 b) (BitVec.ofNat 8 c) (BitVec.ofNat 8 d)

end Sys2Proof.Machine
end

