-- ==== Sys2Proof/Machine/Codes.lean ====
section
/-! DEFINITION. The numeric codes of the manual: statuses and kinds (R172), states and phases (R183), rights (R44),
tests, functions and modes (R107), watch settings (R130, R183), notice reasons and causes (R177). -/

namespace Sys2Proof.Machine

/-- Status codes (R172). -/
def Status.code : Status → Octet
  | .ok => 0x00 | .notFound => 0x01 | .mismatch => 0x02 | .cancelled => 0x03 | .storeFault => 0x04
  | .badKind => 0x10 | .badLen => 0x11 | .badArg => 0x12 | .notAdmin => 0x13 | .dupTag => 0x14
  | .noSlot => 0x15 | .noSeg => 0x16 | .outside => 0x17 | .denied => 0x18 | .badRange => 0x19
  | .inUse => 0x1A | .noRoom => 0x1B | .noTag => 0x1C | .noWatch => 0x1D | .busy => 0x1E

/-- Kind codes of the data requests (R172). -/
def DataKind.code : DataKind → Octet
  | .read => 0x10 | .write => 0x11 | .exchange => 0x12
  | .copy => 0x20 | .find => 0x21 | .fold => 0x22 | .apply => 0x23 | .map => 0x24

/-- State codes of QUERY SLOTS (R183). -/
def SlotState.code : SlotState → Nat
  | .waiting => 1 | .queued => 2 | .running => 3 | .suspended => 4 | .stopping => 5 | .held => 6

/-- Phase codes of QUERY SLOTS (R183). -/
def Phase.code : Phase → Nat
  | .unanswered => 0 | .deferred => 1 | .silent => 2

/-- Right codes (R44); they also order the rights, NONE, READ, WRITE (R42). -/
def Right.code : Right → Nat
  | .none => 0 | .read => 1 | .write => 2

/-- The right of a code (R44); none for a code over 2, which in this namespace is written `Option.none`. -/
def Right.ofCode (o : Octet) : Option Right :=
  if o = 0 then some .none else if o = 1 then some .read else if o = 2 then some .write else Option.none

/-- Test codes (R107). -/
def FindTest.code : FindTest → Octet
  | .eq => 0 | .ne => 1 | .lt => 2 | .gt => 3 | .anyset => 4 | .noneset => 5

/-- The test of a code (R107). -/
def FindTest.ofCode (o : Octet) : Option FindTest :=
  if o = 0 then some .eq else if o = 1 then some .ne else if o = 2 then some .lt
  else if o = 3 then some .gt else if o = 4 then some .anyset else if o = 5 then some .noneset else none

/-- FOLD function codes (R107). -/
def FoldFn.code : FoldFn → Octet
  | .sum => 0 | .xor => 1 | .or => 2 | .and => 3

/-- The FOLD function of a code (R107). -/
def FoldFn.ofCode (o : Octet) : Option FoldFn :=
  if o = 0 then some .sum else if o = 1 then some .xor else if o = 2 then some .or
  else if o = 3 then some .and else none

/-- APPLY function codes (R107). -/
def ApplyFn.code : ApplyFn → Octet
  | .set => 0 | .or => 1 | .and => 2 | .xor => 3 | .add => 4

/-- The APPLY function of a code (R107). -/
def ApplyFn.ofCode (o : Octet) : Option ApplyFn :=
  if o = 0 then some .set else if o = 1 then some .or else if o = 2 then some .and
  else if o = 3 then some .xor else if o = 4 then some .add else none

/-- MAP mode codes (R107). -/
def MapMode.code : MapMode → Octet
  | .low => 0 | .all => 1

/-- The MAP mode of a code (R107). -/
def MapMode.ofCode (o : Octet) : Option MapMode :=
  if o = 0 then some .low else if o = 1 then some .all else none

/-- Watch mode codes (R130). -/
def WatchMode.code : WatchMode → Octet
  | .write => 0 | .change => 1

/-- The watch mode of a code (R130). -/
def WatchMode.ofCode (o : Octet) : Option WatchMode :=
  if o = 0 then some .write else if o = 1 then some .change else none

/-- The codes 0 and 1 of a setting that is off or on: a watch's self (R130). -/
def switchCode (b : Bool) : Octet := if b then 1 else 0

/-- The setting of a code (R130). -/
def switchOf (o : Octet) : Option Bool :=
  if o = 0 then some false else if o = 1 then some true else none

/-- BADFRAME reason codes (R177). -/
def BadFrame.code : BadFrame → Octet
  | .check => 0 | .short => 1 | .long => 2 | .overrun => 3

/-- RESTARTED cause codes (R177). -/
def RestartCause.code : RestartCause → Octet
  | .power => 0 | .pin => 1 | .restart => 2 | .linkreset => 3

/-- The kind of a data request. -/
def Job.kind {α : Type} : Job α → DataKind
  | .read .. => .read | .write .. => .write | .exchange .. => .exchange
  | .copy .. => .copy | .find .. => .find | .fold .. => .fold | .apply .. => .apply | .map .. => .map

/-- The request is a block operation; otherwise it is direct (00_scope.md section 5). -/
def Job.isBlock {α : Type} : Job α → Bool
  | .read .. | .write .. | .exchange .. => false
  | .copy .. | .find .. | .fold .. | .apply .. | .map .. => true

/-- The request kinds (R172). -/
inductive RequestKind
  | data (k : DataKind)
  | claim | cancel | watch | rearm | unwatch | define | drop | linkset | query | linkreset | restart
  deriving DecidableEq, Repr

/-- Request kind codes (R172). -/
def RequestKind.code : RequestKind → Octet
  | .data k => k.code
  | .claim => 0x30 | .cancel => 0x31 | .watch => 0x40 | .rearm => 0x41 | .unwatch => 0x42
  | .define => 0x50 | .drop => 0x51 | .linkset => 0x52 | .query => 0x53 | .linkreset => 0x54 | .restart => 0x55

/-- The request kind of a code; none when the code is no request kind (R171, R172). -/
def RequestKind.ofCode (o : Octet) : Option RequestKind :=
  if o = 0x10 then some (.data .read) else if o = 0x11 then some (.data .write)
  else if o = 0x12 then some (.data .exchange) else if o = 0x20 then some (.data .copy)
  else if o = 0x21 then some (.data .find) else if o = 0x22 then some (.data .fold)
  else if o = 0x23 then some (.data .apply) else if o = 0x24 then some (.data .map)
  else if o = 0x30 then some .claim else if o = 0x31 then some .cancel
  else if o = 0x40 then some .watch else if o = 0x41 then some .rearm
  else if o = 0x42 then some .unwatch else if o = 0x50 then some .define
  else if o = 0x51 then some .drop else if o = 0x52 then some .linkset
  else if o = 0x53 then some .query else if o = 0x54 then some .linkreset
  else if o = 0x55 then some .restart else none

end Sys2Proof.Machine
end

