-- ==== Sys2Proof/Machine/Frames.lean ====
section
/-! DEFINITION. Frames on the links: the CRC (R165), the checks of a received frame (R163), the octets and bits of
the frames the part sends (R168, R170, R176, R177). -/

namespace Sys2Proof.Machine

/-- One bit into the CRC register: generator x¹⁶ + x¹² + x⁵ + 1 (R165). -/
def crcBit (r : Half) (b : Bool) : Half :=
  if r.getLsbD 15 != b then (r <<< 1) ^^^ 0x1021 else r <<< 1

/-- The CRC register after bits, from a register value (R165). -/
def crcFrom (r : Half) (bits : List Bool) : Half := bits.foldl crcBit r

/-- The CRC of octets: the register starts at FFFFh, each octet enters most significant bit first (R165). -/
def crc (os : List Octet) : Half := crcFrom 0xFFFF (bitsOf os)

/-- Octets followed by their CRC, most significant octet first (R165). -/
def withCrc (os : List Octet) : List Octet := os ++ halfOctets (crc os)

/-! ### Receiving (R163) -/

/-- The octets of a request frame before its CRC (R170). -/
def requestOctets (f : Frame) : List Octet :=
  [f.kind, f.flags, f.tag] ++ halfOctets f.length ++ f.payload

/-- The bits a host sends for a request frame, CRC included (R160, R165, R170). -/
def requestBits (f : Frame) : List Bool := bitsOf (withCrc (requestOctets f))

/-- The frame that octets without CRC spell, if they hold a header (R170). -/
def frameOf : List Octet → Option Frame
  | k :: fl :: t :: l1 :: l0 :: payload =>
    some { kind := k, flags := fl, tag := t, length := half l1 l0, payload := payload }
  | _ => none

/-- The checks at the end of a frame, in the order of R163: SHORT, LONG, CHECK. -/
def receiveBits (bits : List Bool) : Except BadFrame Frame :=
  if bits.length % 8 ≠ 0 then .error .short
  else if bits.length < 8 * 7 then .error .short
  else if 8 * 267 < bits.length then .error .long
  else if crc (octetsOf bits) ≠ 0 then .error .check
  else match frameOf ((octetsOf bits).take (bits.length / 8 - 2)) with
    | some f => .ok f
    | none => .error .short

/-- The check that is left of R163 for a request frame a host sends whole with its right CRC: LONG when its payload
has more than 260 octets. -/
def receiveFrame (f : Frame) : Except BadFrame Frame :=
  if payloadFits f.payload.length then .ok f else .error .long

/-! ### Sending (R168, R170, R176, R177) -/

/-- A frame the part sends, without its CRC: kind, octets 1 and 2, payload length and payload (R170). -/
def outOctets (kind octet1 octet2 : Octet) (payload : List Octet) : List Octet :=
  [kind, octet1, octet2] ++ halfOctets (BitVec.ofNat 16 payload.length) ++ payload

/-- A reply frame without its CRC (R170, R172, R176). -/
def Reply.octets : Reply → List Octet
  | .answer st tag ws => outOctets 0x70 st.code tag (wordsOctets ws)
  | .deferred tag => outOctets 0x71 0 tag []
  | .pending tag => outOctets 0x72 0 tag []

/-- The octet of a number below 256. -/
def octet (n : Nat) : Octet := BitVec.ofNat 8 n

/-- The two octets of a number below 65,536. -/
def numHalf (n : Nat) : List Octet := halfOctets (BitVec.ofNat 16 n)

/-- A notice frame without its CRC (R170, R172, R177). -/
def Notice.octets : Notice → List Octet
  | .ready tag k st => outOctets 0x80 0 tag [k.code, st.code]
  | .dropped tag k => outOctets 0x81 0 tag [k.code]
  | .changed w n off => outOctets 0x82 0 (octet w.val) (octet n.val :: numHalf off)
  | .watchgone w seg => outOctets 0x83 0 (octet w.val) [octet seg.val]
  | .overflow lost => outOctets 0x84 0 0 (numHalf lost)
  | .badframe why count => outOctets 0x85 0 0 (why.code :: numHalf count)
  | .restarted cause n => outOctets 0x86 0 0 [cause.code, octet n.val]

/-- The frame in transmission on a link, with its CRC: the first frame of the list its transmitter serves
(R155, R168). -/
def Link.sending (l : Link) : Option (List Octet) :=
  match l.transmitter with
  | .free => none
  | .reply => l.replies.head?.map fun r => withCrc r.octets
  | .notice => l.notices.head?.map fun m => withCrc m.octets

/-- The bits of the frame in transmission, octet after octet, most significant bit first (R168). -/
def Link.sendingBits (l : Link) : List Bool :=
  match l.sending with
  | some os => bitsOf os
  | none => []

/-- What the falling edges of OCKn set OFRn and ODTn to for the frame in transmission, from the edge that raises OFRn to
the one that lowers it, in which the transmission completes: one bit in each period, and both lines low after the last
(R160, R161, R168). -/
def Link.outEdges (l : Link) : List (Bool × Bool) :=
  if l.transmitter = .free then [] else l.sendingBits.map (fun b => (true, b)) ++ [(false, false)]

end Sys2Proof.Machine
end

