-- ==== Sys2Proof/Machine/Requests.lean ====
section
/-! DEFINITION. Request frames decoded: the payload layouts of R173 to R175 and the first three checks of R7, BADKIND,
BADLEN and BADARG (R8, R171), as far as they need no state; and the same layouts written out. -/

namespace Sys2Proof.Machine

/-- A data request as its frame gives it: kind with operands and parameters, the POST flag, a WRITE's data. -/
structure DataRequest where
  job : Job Ref
  posted : Bool
  data : List Word
  deriving DecidableEq, Repr

/-- The parameter a LINKSET sets, with its value (R178, R179). -/
inductive Parameter
  | budget (value : Half)
  | hold (value : Half)
  | notify (on : Bool)
  | priority (value : Fin 4)
  | admin (yes : Bool)
  deriving DecidableEq, Repr

/-- What a QUERY asks for (R181). -/
inductive Selector
  | part
  | link (n : LinkId)
  | slots
  | segment (id : SegmentId)
  | watches
  deriving DecidableEq, Repr

/-- A request frame that has passed BADKIND, BADLEN and the BADARG conditions that need no state. -/
inductive Request
  | data (r : DataRequest)
  | claim
  | cancel
  | watch (segment : SegmentId) (offset count : Nat) (mode : WatchMode) (selfOn : Bool)
  | rearm (id : WatchId)
  | unwatch (id : WatchId)
  | define (segment : SegmentId) (base length : Nat) (rights : Vector Right 4)
  | drop (segment : SegmentId)
  | linkset (target : LinkId) (parameter : Parameter)
  | query (selector : Selector)
  | linkreset (target : LinkId)
  | restart
  deriving DecidableEq, Repr

/-! ### Reading fields -/

/-- A field in range, or BADARG. -/
def inRange {α : Type} (o : Option α) : Except Status α :=
  match o with
  | some a => .ok a
  | none => .error .badArg

/-- A number below a bound, as an index. -/
def below (bound : Nat) (o : Octet) : Option (Fin bound) :=
  if h : o.toNat < bound then some ⟨o.toNat, h⟩ else none

/-- An offset or another two-octet number. -/
def num (hi lo : Octet) : Nat := (half hi lo).toNat

/-- A count sent as count − 1 (00_scope.md section 4, "Counts"). -/
def countOf (hi lo : Octet) : Nat := num hi lo + 1

/-- The flags octet carries no flag a kind does not allow: POST for WRITE alone (R8, R171). -/
def flagsFit (k : RequestKind) (flags : Octet) : Bool :=
  match k with
  | .data .write => decide (flags = 0) || decide (flags = 1)
  | _ => decide (flags = 0)

/-! ### Payloads (R173, R174, R175)

Each reads one kind's payload: BADLEN when its length is not one the kind allows, BADARG when a field is out of range. -/

/-- READ (R173): the count lies in 1 to 64 (R8). -/
def parseRead : List Octet → Except Status Request
  | [s, o1, o0, c] =>
    if c.toNat = 0 ∨ 64 < c.toNat then .error .badArg
    else .ok (.data { job := .read ⟨s, num o1 o0, c.toNat⟩, posted := false, data := [] })
  | _ => .error .badLen

/-- WRITE (R173): 1 to 64 data words. -/
def parseWrite (posted : Bool) : List Octet → Except Status Request
  | s :: o1 :: o0 :: rest =>
    match wordsOf rest with
    | some ws =>
      if ws.length = 0 ∨ 64 < ws.length then .error .badLen
      else .ok (.data { job := .write ⟨s, num o1 o0, ws.length⟩, posted := posted, data := ws })
    | none => .error .badLen
  | _ => .error .badLen

/-- EXCHANGE (R173). -/
def parseExchange : List Octet → Except Status Request
  | [s, o1, o0, c3, c2, c1, c0, m3, m2, m1, m0, n3, n2, n1, n0] =>
    .ok (.data { job := .exchange ⟨s, num o1 o0, 1⟩ (word c3 c2 c1 c0) (word m3 m2 m1 m0) (word n3 n2 n1 n0)
                 posted := false, data := [] })
  | _ => .error .badLen

/-- COPY (R174): one count for both operands. -/
def parseCopy : List Octet → Except Status Request
  | [s, o1, o0, c1, c0, d, d1, d0] =>
    .ok (.data { job := .copy ⟨s, num o1 o0, countOf c1 c0⟩ ⟨d, num d1 d0, countOf c1 c0⟩
                 posted := false, data := [] })
  | _ => .error .badLen

/-- FIND (R174). -/
def parseFind : List Octet → Except Status Request
  | [s, o1, o0, c1, c0, t, v3, v2, v1, v0, m3, m2, m1, m0] => do
    let test ← inRange (FindTest.ofCode t)
    .ok (.data { job := .find ⟨s, num o1 o0, countOf c1 c0⟩ test (word v3 v2 v1 v0) (word m3 m2 m1 m0)
                 posted := false, data := [] })
  | _ => .error .badLen

/-- FOLD (R174). -/
def parseFold : List Octet → Except Status Request
  | [s, o1, o0, c1, c0, f, i3, i2, i1, i0] => do
    let fn ← inRange (FoldFn.ofCode f)
    .ok (.data { job := .fold ⟨s, num o1 o0, countOf c1 c0⟩ fn (word i3 i2 i1 i0), posted := false, data := [] })
  | _ => .error .badLen

/-- APPLY (R174). -/
def parseApply : List Octet → Except Status Request
  | [s, o1, o0, c1, c0, f, x3, x2, x1, x0] => do
    let fn ← inRange (ApplyFn.ofCode f)
    .ok (.data { job := .apply ⟨s, num o1 o0, countOf c1 c0⟩ fn (word x3 x2 x1 x0), posted := false, data := [] })
  | _ => .error .badLen

/-- MAP (R174); its table operand covers 256 words (R9). -/
def parseMap : List Octet → Except Status Request
  | [s, o1, o0, c1, c0, t, t1, t0, m] => do
    let mode ← inRange (MapMode.ofCode m)
    .ok (.data { job := .map ⟨s, num o1 o0, countOf c1 c0⟩ ⟨t, num t1 t0, 256⟩ mode, posted := false, data := [] })
  | _ => .error .badLen

/-- A request without payload (R175). -/
def parseEmpty (r : Request) : List Octet → Except Status Request
  | [] => .ok r
  | _ => .error .badLen

/-- WATCH (R175, R130). -/
def parseWatch : List Octet → Except Status Request
  | [s, o1, o0, c1, c0, m, w] => do
    let seg ← inRange (below 64 s)
    let mode ← inRange (WatchMode.ofCode m)
    let selfOn ← inRange (switchOf w)
    .ok (.watch seg (num o1 o0) (countOf c1 c0) mode selfOn)
  | _ => .error .badLen

/-- REARM (R175, R137). -/
def parseRearm : List Octet → Except Status Request
  | [w] => do
    let id ← inRange (below 32 w)
    .ok (.rearm id)
  | _ => .error .badLen

/-- UNWATCH (R175, R138). -/
def parseUnwatch : List Octet → Except Status Request
  | [w] => do
    let id ← inRange (below 32 w)
    .ok (.unwatch id)
  | _ => .error .badLen

/-- DEFINE (R175, R44). -/
def parseDefine : List Octet → Except Status Request
  | [s, b1, b0, l1, l0, r0, r1, r2, r3] => do
    let seg ← inRange (below 64 s)
    let a ← inRange (Right.ofCode r0)
    let b ← inRange (Right.ofCode r1)
    let c ← inRange (Right.ofCode r2)
    let d ← inRange (Right.ofCode r3)
    .ok (.define seg (num b1 b0) (countOf l1 l0) #v[a, b, c, d])
  | _ => .error .badLen

/-- DROP (R175, R46). -/
def parseDrop : List Octet → Except Status Request
  | [s] => do
    let seg ← inRange (below 64 s)
    .ok (.drop seg)
  | _ => .error .badLen

/-- The parameter of a LINKSET from its code and value, if they are in range (R175, R179). -/
def parameterOf (code : Octet) (value : Half) : Option Parameter :=
  if code = 0 then some (.budget value)
  else if code = 1 then some (.hold value)
  else if code = 2 then (if value = 0 then some (.notify false) else if value = 1 then some (.notify true) else none)
  else if code = 3 then (if h : value.toNat < 4 then some (.priority ⟨value.toNat, h⟩) else none)
  else if code = 4 then (if value = 0 then some (.admin false) else if value = 1 then some (.admin true) else none)
  else none

/-- LINKSET (R175, R179): setting link 0's admin to 0 is BADARG. -/
def parseLinkset : List Octet → Except Status Request
  | [t, c, v1, v0] => do
    let target ← inRange (below 4 t)
    let p ← inRange (parameterOf c (half v1 v0))
    if p = .admin false ∧ target = 0 then .error .badArg else .ok (.linkset target p)
  | _ => .error .badLen

/-- QUERY (R175, R181): the argument is a link number for LINK, a segment id for SEGMENT, else 0. -/
def parseQuery : List Octet → Except Status Request
  | [c, a] =>
    if c = 0 then (if a = 0 then .ok (.query .part) else .error .badArg)
    else if c = 1 then do
      let n ← inRange (below 4 a)
      .ok (.query (.link n))
    else if c = 2 then (if a = 0 then .ok (.query .slots) else .error .badArg)
    else if c = 3 then do
      let seg ← inRange (below 64 a)
      .ok (.query (.segment seg))
    else if c = 4 then (if a = 0 then .ok (.query .watches) else .error .badArg)
    else .error .badArg
  | _ => .error .badLen

/-- LINKRESET (R175, R184). -/
def parseLinkreset : List Octet → Except Status Request
  | [t] => do
    let target ← inRange (below 4 t)
    .ok (.linkreset target)
  | _ => .error .badLen

/-- A payload read by its kind; a WRITE is posted when its POST flag is set (R170). -/
def parsePayload (flags : Octet) (payload : List Octet) : RequestKind → Except Status Request
  | .data .read => parseRead payload
  | .data .write => parseWrite (flags.getLsbD 0) payload
  | .data .exchange => parseExchange payload
  | .data .copy => parseCopy payload
  | .data .find => parseFind payload
  | .data .fold => parseFold payload
  | .data .apply => parseApply payload
  | .data .map => parseMap payload
  | .claim => parseEmpty .claim payload
  | .cancel => parseEmpty .cancel payload
  | .watch => parseWatch payload
  | .rearm => parseRearm payload
  | .unwatch => parseUnwatch payload
  | .define => parseDefine payload
  | .drop => parseDrop payload
  | .linkset => parseLinkset payload
  | .query => parseQuery payload
  | .linkreset => parseLinkreset payload
  | .restart => parseEmpty .restart payload

/-- A frame decoded (R171): BADKIND, then BADLEN (the length field, then the kind's lengths), then BADARG (the flags,
then the fields). -/
def parseFrame (f : Frame) : Except Status Request :=
  match RequestKind.ofCode f.kind with
  | none => .error .badKind
  | some k =>
    if f.length.toNat ≠ f.payload.length then .error .badLen
    else match parsePayload f.flags f.payload k with
      | .error e => .error e
      | .ok r => if flagsFit k f.flags then .ok r else .error .badArg

/-! ### Writing request frames -/

/-- The count − 1 of a count, in two octets. -/
def countOctets (count : Nat) : List Octet := numHalf (count - 1)

/-- The segment id and offset of an operand. -/
def Ref.octets (r : Ref) : List Octet := r.segment :: numHalf r.offset

/-- The payload of a data request (R173, R174). -/
def DataRequest.payload (r : DataRequest) : List Octet :=
  match r.job with
  | .read a => a.octets ++ [octet a.count]
  | .write a => a.octets ++ wordsOctets r.data
  | .exchange a c m n => a.octets ++ wordsOctets [c, m, n]
  | .copy a b => a.octets ++ countOctets a.count ++ b.octets
  | .find a t v m => a.octets ++ countOctets a.count ++ [t.code] ++ wordsOctets [v, m]
  | .fold a f i => a.octets ++ countOctets a.count ++ [f.code] ++ wordOctets i
  | .apply a f x => a.octets ++ countOctets a.count ++ [f.code] ++ wordOctets x
  | .map a t m => a.octets ++ countOctets a.count ++ t.octets ++ [m.code]

/-- The parameter code and value of a LINKSET (R175). -/
def Parameter.octets : Parameter → List Octet
  | .budget v => 0 :: halfOctets v
  | .hold v => 1 :: halfOctets v
  | .notify on => [2, 0, switchCode on]
  | .priority p => [3, 0, octet p.val]
  | .admin yes => [4, 0, switchCode yes]

/-- The selector code and argument of a QUERY (R175). -/
def Selector.octets : Selector → List Octet
  | .part => [0, 0]
  | .link n => [1, octet n.val]
  | .slots => [2, 0]
  | .segment id => [3, octet id.val]
  | .watches => [4, 0]

/-- The kind of a request. -/
def Request.kind : Request → RequestKind
  | .data r => .data r.job.kind
  | .claim => .claim
  | .cancel => .cancel
  | .watch .. => .watch
  | .rearm _ => .rearm
  | .unwatch _ => .unwatch
  | .define .. => .define
  | .drop _ => .drop
  | .linkset .. => .linkset
  | .query _ => .query
  | .linkreset _ => .linkreset
  | .restart => .restart

/-- The payload of a request (R173 to R175). -/
def Request.payload : Request → List Octet
  | .data r => r.payload
  | .claim | .cancel | .restart => []
  | .watch seg off c m w => octet seg.val :: numHalf off ++ countOctets c ++ [m.code, switchCode w]
  | .rearm id | .unwatch id => [octet id.val]
  | .define seg base len rights =>
    octet seg.val :: numHalf base ++ countOctets len ++ rights.toList.map fun r => octet r.code
  | .drop seg => [octet seg.val]
  | .linkset t p => octet t.val :: p.octets
  | .query q => q.octets
  | .linkreset t => [octet t.val]

/-- The flags octet of a request: POST for a posted WRITE (R170). -/
def Request.flags : Request → Octet
  | .data r => if r.posted then 1 else 0
  | _ => 0

/-- The request frame a host sends for a request with a tag (R170). -/
def Request.frame (r : Request) (tag : Tag) : Frame :=
  { kind := r.kind.code, flags := r.flags, tag := tag
    length := BitVec.ofNat 16 r.payload.length, payload := r.payload }

end Sys2Proof.Machine
end

