-- ==== Sys2Proof/Machine/Operands.lean ====
section
/-! DEFINITION. Operands: translation by the Segment Table (R42, R43), the operands of each kind in order with the
right each needs (R9), the MAP table test (R8), and the store ranges a request reaches. -/

namespace Sys2Proof.Machine

/-! ### Translation (R42, R43) -/

/-- The entry a segment id octet names; an id over 63 names none (R40; log 16). -/
def State.segmentOf (s : State) (id : Octet) : Option Segment :=
  if h : id.toNat < 64 then s.segments[id.toNat] else none

/-- Link n's right on a segment. -/
def Segment.right (g : Segment) (n : LinkId) : Right := g.rights[n]

/-- A right satisfies a need when it is not less than the need (R42). -/
def Right.satisfies (have_ need : Right) : Bool := decide (need.code ≤ have_.code)

/-- Translate an operand for link n with a needed right: NOSEG, OUTSIDE, DENIED, or the operand with its store
range (R43). -/
def State.translate (s : State) (n : LinkId) (need : Right) (r : Ref) : Except Status Operand :=
  match s.segmentOf r.segment with
  | none => .error .noSeg
  | some g =>
    if g.length < r.offset + r.count then .error .outside
    else if (g.right n).satisfies need then
      .ok { segment := r.segment, offset := r.offset, count := r.count, first := g.base + r.offset }
    else .error .denied

/-- Translate a data request's operands in the order and with the rights of R9; the first that fails refuses. -/
def State.translateJob (s : State) (n : LinkId) : Job Ref → Except Status (Job Operand)
  | .read a => do
    let x ← s.translate n .read a
    .ok (.read x)
  | .write a => do
    let x ← s.translate n .write a
    .ok (.write x)
  | .exchange a c m v => do
    let x ← s.translate n .write a
    .ok (.exchange x c m v)
  | .copy a b => do
    let x ← s.translate n .read a
    let y ← s.translate n .write b
    .ok (.copy x y)
  | .find a t v m => do
    let x ← s.translate n .read a
    .ok (.find x t v m)
  | .fold a f i => do
    let x ← s.translate n .read a
    .ok (.fold x f i)
  | .apply a f v => do
    let x ← s.translate n .write a
    .ok (.apply x f v)
  | .map a t m => do
    let x ← s.translate n .write a
    let y ← s.translate n .read t
    .ok (.map x y m)

/-! ### Store ranges -/

/-- Two runs of words have a store address in common (R51). -/
def rangesOverlap (a m b k : Nat) : Bool := decide (a < b + k) && decide (b < a + m) && decide (0 < m) && decide (0 < k)

/-- Two operands' store ranges overlap. -/
def Operand.overlaps (x y : Operand) : Bool := rangesOverlap x.first x.count y.first y.count

/-- The store range of a reference that lies inside a defined segment: its first address (R8). -/
def State.placeOf (s : State) (r : Ref) : Option Nat :=
  match s.segmentOf r.segment with
  | none => none
  | some g => if g.length < r.offset + r.count then none else some (g.base + r.offset)

/-- A MAP's table overlaps its range in the Store; the test is made only where both lie inside defined
segments (R8). -/
def State.mapOverlaps (s : State) : Job Ref → Bool
  | .map a t _ =>
    match s.placeOf a, s.placeOf t with
    | some x, some y => rangesOverlap x a.count y t.count
    | _, _ => false
  | _ => false

/-- The operands of a request in order (R9). -/
def Job.operands {α : Type} : Job α → List α
  | .read a | .write a | .exchange a _ _ _ | .find a _ _ _ | .fold a _ _ | .apply a _ _ => [a]
  | .copy a b | .map a b _ => [a, b]

/-- The operand whose words a request's positions name: for COPY the source (R106). -/
def Job.main {α : Type} : Job α → α
  | .read a | .write a | .exchange a _ _ _ | .find a _ _ _ | .fold a _ _ | .apply a _ _ => a
  | .copy a _ | .map a _ _ => a

/-- The count of a request: the positions of a block operation (R106). -/
def Job.count (j : Job Operand) : Nat := j.main.count

/-- A request names a segment id in one of its operands as sent (R45). -/
def Job.names (j : Job Operand) (id : SegmentId) : Bool :=
  j.operands.any fun o => decide (o.segment.toNat = id.val)

/-! ### The words of an access that exist (log 18) -/

/-- A run of words lies in the Store. -/
def inStore (first count : Nat) : Bool := decide (first + count ≤ storeSize)

/-- The words a direct access may reach lie in the Store. -/
def DirectAccess.inStore (a : DirectAccess) : Bool :=
  match a.job with
  | .read r => Machine.inStore r.first r.count
  | .write r => Machine.inStore r.first a.data.length
  | .exchange r _ _ _ => Machine.inStore r.first 1
  | _ => true

/-- One more than the highest position a stride covers (R89). -/
def Stride.top (r : Stride) (dir : Direction) : Nat :=
  match dir with
  | .upward => r.start + r.size
  | .downward => r.start + 1

/-- The words a stride may reach lie in the Store. -/
def Stride.inStore (r : Stride) (sl : Slot) : Bool :=
  match sl.job with
  | .copy a b =>
    Machine.inStore a.first (r.top sl.cursor.dir) && Machine.inStore b.first (r.top sl.cursor.dir)
  | .map a t _ => Machine.inStore a.first (r.top sl.cursor.dir) && Machine.inStore t.first 256
  | j => Machine.inStore j.main.first (r.top sl.cursor.dir)

end Sys2Proof.Machine
end

