-- ==== Sys2Proof/Machine/Claims.lean ====
section
/-! DEFINITION. Claims and eligibility (R50 to R60), the Engine Queue (R83), and the Store Port's choice (R62 to R64). -/

namespace Sys2Proof.Machine

/-! ### Claims -/

/-- A claim: a store range, shared or exclusive (R50). -/
structure Claim where
  first : Nat
  count : Nat
  exclusive : Bool
  deriving DecidableEq, Repr

/-- A claim on an operand's store range. -/
def Operand.claim (o : Operand) (exclusive : Bool) : Claim :=
  { first := o.first, count := o.count, exclusive := exclusive }

/-- The claims of a request: those a block operation takes (R50), and those a direct request is treated as
making for the eligibility test (R55). -/
def Job.claims : Job Operand → List Claim
  | .read a => [a.claim false]
  | .write a => [a.claim true]
  | .exchange a _ _ _ => [a.claim true]
  | .copy a b => [a.claim false, b.claim true]
  | .find a _ _ _ => [a.claim false]
  | .fold a _ _ => [a.claim false]
  | .apply a _ _ => [a.claim true]
  | .map a t _ => [t.claim false, a.claim true]

/-- Claims of different slots conflict when their ranges overlap and one at least is exclusive (R51). -/
def Claim.conflicts (c d : Claim) : Bool :=
  rangesOverlap c.first c.count d.first d.count && (c.exclusive || d.exclusive)

/-- A slot holds claims exactly when it is RUNNING, SUSPENDED or STOPPING (R53). -/
def SlotState.holdsClaims : SlotState → Bool
  | .running | .suspended | .stopping => true
  | .waiting | .queued | .held => false

/-- The claims a slot holds (R52, R53). -/
def Slot.claims (sl : Slot) : List Claim := if sl.state.holdsClaims then sl.job.claims else []

/-- No claim held by a slot other than `i` conflicts with any of `cs`. -/
def State.clearOfClaims (s : State) (i : SlotId) (cs : List Claim) : Bool :=
  s.busySlots.all fun p => decide (p.1 = i) || p.2.claims.all fun d => cs.all fun c => !c.conflicts d

/-! ### Eligibility -/

/-- A posted WRITE of the request's link, admitted earlier, is still WAITING (R59); SILENT marks the posted
WRITEs (R6). -/
def State.barred (s : State) (i : SlotId) (sl : Slot) : Bool :=
  (s.busyOn i.link).any fun p =>
    decide (p.2.state = .waiting) && decide (p.2.phase = .silent) && decide (p.2.admission < sl.admission)

/-- A WAITING direct request is eligible (R56). -/
def State.directEligible (s : State) (i : SlotId) (sl : Slot) : Bool :=
  s.clearOfClaims i sl.job.claims && !s.barred i sl

/-- An entry of the Engine Queue is eligible (R57). -/
def State.engineEligible (s : State) (i : SlotId) (sl : Slot) : Bool :=
  decide (sl.state = .suspended)
    || (s.clearOfClaims i sl.job.claims && !s.barred i sl && !sl.cancelMark)

/-! ### The Engine Queue (R83, R84) -/

/-- One entry stands ahead of another: higher priority, then smaller admission number (R83). -/
def aheadOf (a b : Slot) : Bool :=
  decide (b.priority < a.priority) || (decide (a.priority = b.priority) && decide (a.admission < b.admission))

/-- Put an entry at its place in the queue. -/
def joinQueue (e : SlotId × Slot) : List (SlotId × Slot) → List (SlotId × Slot)
  | [] => [e]
  | x :: rest => if aheadOf x.2 e.2 then x :: joinQueue e rest else e :: x :: rest

/-- The Engine Queue, in order: the slots that are QUEUED or SUSPENDED (R83). -/
def State.engineQueue (s : State) : List (SlotId × Slot) :=
  (s.busySlots.filter fun p => decide (p.2.state = .queued) || decide (p.2.state = .suspended)).foldr joinQueue []

/-- The first eligible entry in queue order (R85). -/
def State.firstEligible (s : State) : Option (SlotId × Slot) :=
  s.engineQueue.find? fun p => s.engineEligible p.1 p.2

/-- An eligible entry whose priority is strictly greater than a given one (R98). -/
def State.preempts (s : State) (priority : Fin 4) : Bool :=
  s.engineQueue.any fun p => decide (priority < p.2.priority) && s.engineEligible p.1 p.2

/-! ### Candidates at the Store Port -/

/-- The direct access in progress was started for this slot, and the slot still waits for it. -/
def State.inAccess (s : State) (i : SlotId) : Bool :=
  match s.port with
  | .direct a => a.live && decide (a.owner = i)
  | _ => false

/-- The direct candidates: every eligible WAITING direct request whose access has not started (R62, R66). -/
def State.directCandidates (s : State) : List (SlotId × Slot) :=
  s.busySlots.filter fun p =>
    decide (p.2.state = .waiting) && s.directEligible p.1 p.2 && !s.inAccess p.1

/-- The entry with the smallest admission number (R64). -/
def earliest : List (SlotId × Slot) → Option (SlotId × Slot)
  | [] => none
  | p :: rest =>
    match earliest rest with
    | none => some p
    | some q => if q.2.admission < p.2.admission then some q else some p

/-- Start the stride that was asked for; the marker becomes ENGINE (R63). -/
def State.startStride (s : State) (r : Stride) : State :=
  { s with port := .stride r, stride := none, marker := .engine }

/-- Start a direct access; the marker becomes DIRECT and the slot stays WAITING (R63, R69). -/
def State.startDirect (s : State) (i : SlotId) (sl : Slot) : State :=
  { s with port := .direct { owner := i, live := true, job := sl.job, data := sl.data }, marker := .direct }

/-- The Store Port's choice (R62, R63, R64): an idle port starts the stride candidate, the earliest direct
candidate, or, of both kinds, the one its marker does not name. -/
def State.portChoose (s : State) : State :=
  match s.port with
  | .idle =>
    match s.stride, earliest s.directCandidates with
    | none, none => s
    | some r, none => s.startStride r
    | none, some (i, sl) => s.startDirect i sl
    | some r, some (i, sl) =>
      match s.marker with
      | .direct => s.startStride r
      | .engine => s.startDirect i sl
  | _ => s

/-! ### Dispatch (R85 to R87, R90) -/

/-- The positions of a stride (R89). -/
def stridePositions : Nat := 16

/-- The next stride of an operation: from the cursor's next offset, 16 positions or those left (R89). -/
def nextStride (i : SlotId) (sl : Slot) : Stride :=
  { owner := i, start := sl.cursor.next, size := min stridePositions (sl.job.count - sl.cursor.done) }

/-- Dispatch an entry: it leaves the queue, is RUNNING and holds its claims, and its stride is asked for; the
cursor is as it stands (R86, R87). -/
def State.startOperation (s : State) (i : SlotId) (sl : Slot) : State :=
  { s.setSlot i (some { sl with state := .running }) with stride := some (nextStride i sl) }

/-- An IDLE engine dispatches the first eligible entry (R85). -/
def State.dispatch (s : State) : State :=
  if s.engineBusy then s
  else match s.firstEligible with
    | none => s
    | some (i, sl) => s.startOperation i sl

end Sys2Proof.Machine
end

