-- ==== Sys2Proof/Machine/Watches.lean ====
section
/-! DEFINITION. The Watch Table's reaction to write reports (R79, R132 to R136), and the removal of watches. -/

namespace Sys2Proof.Machine

/-- A write report: the writer's link, the first store address written, and for each word written, in
ascending store address, whether it counts as changed (R79). -/
structure WriteReport where
  writer : LinkId
  first : Nat
  marks : List Bool
  deriving DecidableEq, Repr

/-- The report of an access: none when it wrote no word (R79). -/
def reportOf (writer : LinkId) (first : Nat) (marks : List Bool) : Option WriteReport :=
  if marks = [] then none else some { writer := writer, first := first, marks := marks }

/-- The watch ids in ascending order. -/
def watchIds : List WatchId := List.finRange 32

/-- Entry id of the Watch Table. -/
def State.watch (s : State) (id : WatchId) : Option Watch := s.watches[id]

/-- Put entry id of the Watch Table. -/
def State.setWatch (s : State) (id : WatchId) (w : Option Watch) : State := { s with watches := s.watches.set id w }

/-- A word of a report is counted by a watch (R132). -/
def Watch.counts (w : Watch) (writer : LinkId) (address : Nat) (changed : Bool) : Bool :=
  decide (w.first ≤ address) && decide (address < w.first + w.count)
    && (decide (w.mode = .write) || changed)
    && (w.selfOn || decide (writer ≠ w.owner))

/-- The lowest counted word of the words from an address on (R134). -/
def Watch.firstCounted (w : Watch) (writer : LinkId) : Nat → List Bool → Option Nat
  | _, [] => none
  | a, m :: rest => if w.counts writer a m then some a else w.firstCounted writer (a + 1) rest

/-- One watch acts on a report (R133, R134, R136): an ARMED watch fires and queues CHANGED, a FIRED watch
counts a miss. -/
def State.reportTo (r : WriteReport) (s : State) (id : WatchId) : State :=
  match s.watch id with
  | none => s
  | some w =>
    match w.firstCounted r.writer r.first r.marks with
    | none => s
    | some a =>
      if w.fired then s.setWatch id (some { w with missed := countUp missedMax w.missed })
      else (s.setWatch id (some { w with fired := true })).queueNotice w.owner (.changed id r.writer (a - w.first))

/-- The Watch Table acts on a report, its watches in ascending id (R135). -/
def State.handReport (s : State) (r : Option WriteReport) : State :=
  match r with
  | none => s
  | some r => watchIds.foldl (State.reportTo r) s

/-- The lowest-numbered free entry of the Watch Table (R130). -/
def State.freeWatch (s : State) : Option WatchId := watchIds.find? fun id => (s.watch id).isNone

/-- Entry id holds a watch owned by link n (R137). -/
def State.ownedWatch (s : State) (n : LinkId) (id : WatchId) : Option Watch :=
  (s.watch id).filter fun w => decide (w.owner = n)

/-- Remove one watch if it is on a segment, and queue WATCHGONE to its owner (R47). -/
def State.dropWatchOn (seg : SegmentId) (s : State) (id : WatchId) : State :=
  match s.watch id with
  | none => s
  | some w =>
    if w.segment = seg then (s.setWatch id none).queueNotice w.owner (.watchgone id seg) else s

/-- Remove every watch on a segment, in ascending id (R47). -/
def State.dropWatchesOn (s : State) (seg : SegmentId) : State := watchIds.foldl (State.dropWatchOn seg) s

/-- The Watch Table without the watches of some owners, with no notice (R140, R141). -/
def State.dropWatchesOf (s : State) (owners : LinkId → Bool) : State :=
  { s with watches := Vector.ofFn fun id => (s.watch id).filter fun w => !owners w.owner }

end Sys2Proof.Machine
end

