-- ==== Sys2Proof/Machine/Access.lean ====
section
/-! DEFINITION. What an access does to the Store: direct accesses (R69 to R78), the positions of each block operation
(R111 to R124), strides (R89), and accesses abandoned at the fall of RSTN (R39, R105). -/

namespace Sys2Proof.Machine

/-! ### Runs of words -/

/-- Read words upward: the words, or the first damaged store address (R33, R71). -/
def Store.readRun (st : Store) : Nat → Nat → Except Nat (List Word)
  | _, 0 => .ok []
  | a, n + 1 =>
    match st.read a with
    | none => .error a
    | some w =>
      match st.readRun (a + 1) n with
      | .error e => .error e
      | .ok ws => .ok (w :: ws)

/-- Write words upward: the Store after, and for each word whether it counts as changed (R74, R80). -/
def Store.writeRun (st : Store) : Nat → List Word → Store × List Bool
  | _, [] => (st, [])
  | a, w :: ws =>
    let r := (st.write a w).writeRun (a + 1) ws
    (r.1, st.changes a w :: r.2)

/-! ### Direct accesses -/

/-- What a direct access did: the Store after, the outcome, whether it met a damaged word, and where and how
it wrote. -/
structure DirectRun where
  store : Store
  outcome : Outcome
  fault : Bool
  first : Nat
  marks : List Bool
  deriving DecidableEq, Repr

/-- STOREFAULT of a direct request: the offset of the damaged word, its store address less the segment's base
at admission (R35, R70). -/
def directFault (o : Operand) (address : Nat) : Outcome :=
  { status := .storeFault, words := [numWord (address - o.first + o.offset)] }

/-- Perform a READ (R71, R72). -/
def runRead (st : Store) (r : Operand) : DirectRun :=
  match st.readRun r.first r.count with
  | .ok ws => { store := st, outcome := { status := .ok, words := ws }, fault := false, first := r.first, marks := [] }
  | .error a => { store := st, outcome := directFault r a, fault := true, first := r.first, marks := [] }

/-- Perform a WRITE (R74). -/
def runWrite (st : Store) (r : Operand) (data : List Word) : DirectRun :=
  let w := st.writeRun r.first data
  { store := w.1, outcome := { status := .ok, words := [] }, fault := false, first := r.first, marks := w.2 }

/-- Perform an EXCHANGE (R77, R78). -/
def runExchange (st : Store) (r : Operand) (compare mask new : Word) : DirectRun :=
  match st.read r.first with
  | none => { store := st, outcome := directFault r r.first, fault := true, first := r.first, marks := [] }
  | some w =>
    if w &&& mask = compare &&& mask then
      { store := st.write r.first new, outcome := { status := .ok, words := [w] }, fault := false
        first := r.first, marks := [st.changes r.first new] }
    else { store := st, outcome := { status := .mismatch, words := [w] }, fault := false, first := r.first, marks := [] }

/-- Perform a direct access. A block operation makes none: it would leave the Store as it is. -/
def DirectAccess.run (a : DirectAccess) (st : Store) : DirectRun :=
  match a.job with
  | .read r => runRead st r
  | .write r => runWrite st r a.data
  | .exchange r c m v => runExchange st r c m v
  | _ => { store := st, outcome := { status := .ok, words := [] }, fault := false, first := 0, marks := [] }

/-! ### What the block operations do at one position -/

/-- FIND's test, on the masked word and the masked value (R114). -/
def FindTest.holds (t : FindTest) (m v : Word) : Bool :=
  match t with
  | .eq => decide (m = v)
  | .ne => decide (m ≠ v)
  | .lt => decide (m.toNat < v.toNat)
  | .gt => decide (v.toNat < m.toNat)
  | .anyset => decide (m ≠ 0)
  | .noneset => decide (m = 0)

/-- FOLD's combination of a word into the accumulator (R117). -/
def FoldFn.combine (f : FoldFn) (acc w : Word) : Word :=
  match f with
  | .sum => acc + w
  | .xor => acc ^^^ w
  | .or => acc ||| w
  | .and => acc &&& w

/-- APPLY reads the old word (R119). -/
def ApplyFn.reads : ApplyFn → Bool
  | .set => false
  | .or | .and | .xor | .add => true

/-- APPLY's new word (R119). -/
def ApplyFn.newWord (f : ApplyFn) (w operand : Word) : Word :=
  match f with
  | .set => operand
  | .or => w ||| operand
  | .and => w &&& operand
  | .xor => w ^^^ operand
  | .add => w + operand

/-- A stride stopped at a damaged word: the word's offset in its operand's segment, and whether that operand
was a MAP's table (R109, R124). -/
structure StrideFault where
  offset : Nat
  table : Bool
  deriving DecidableEq, Repr

/-- What one position came to. -/
inductive Position
  /-- Done: the Store and accumulator after it, and the mark of the word it wrote, if it wrote one. -/
  | finished (store : Store) (acc : Word) (mark : Option Bool)
  /-- Stopped at a damaged word. -/
  | stopped (fault : StrideFault)
  /-- Done, and FIND's test held for the word read. -/
  | matched (w : Word)
  deriving DecidableEq, Repr

/-- The image of an octet through a MAP table: the least significant octet of its entry, or the entry's offset in
the table's segment when it is damaged (R122, R123). -/
def image (st : Store) (table : Operand) (x : Octet) : Except StrideFault Octet :=
  match st.read (table.first + x.toNat) with
  | some e => .ok (e.extractLsb' 0 8)
  | none => .error { offset := table.offset + x.toNat, table := true }

/-- The new word of a MAP: the least significant octet, or all four, replaced, the entries consulted from the
least significant octet up (R122). -/
def mapWord (st : Store) (table : Operand) (mode : MapMode) (w : Word) : Except StrideFault Word :=
  match mode with
  | .low => do
    let x0 ← image st table (w.extractLsb' 0 8)
    .ok (word (w.extractLsb' 24 8) (w.extractLsb' 16 8) (w.extractLsb' 8 8) x0)
  | .all => do
    let x0 ← image st table (w.extractLsb' 0 8)
    let x1 ← image st table (w.extractLsb' 8 8)
    let x2 ← image st table (w.extractLsb' 16 8)
    let x3 ← image st table (w.extractLsb' 24 8)
    .ok (word x3 x2 x1 x0)

/-- The word of an operand at position k, or the fault of reading it. -/
def readAt (st : Store) (o : Operand) (k : Nat) : Except StrideFault Word :=
  match st.read (o.first + k) with
  | some w => .ok w
  | none => .error { offset := o.offset + k, table := false }

/-- Write an operand's word at position k. -/
def writeAt (st : Store) (o : Operand) (k : Nat) (acc v : Word) : Position :=
  .finished (st.write (o.first + k) v) acc (some (st.changes (o.first + k) v))

/-- COPY at position k (R111). -/
def copyAt (st : Store) (source destination : Operand) (k : Nat) (acc : Word) : Position :=
  match readAt st source k with
  | .error f => .stopped f
  | .ok w => writeAt st destination k acc w

/-- FIND at position k (R114, R115). -/
def findAt (st : Store) (range : Operand) (t : FindTest) (value mask : Word) (k : Nat) (acc : Word) : Position :=
  match readAt st range k with
  | .error f => .stopped f
  | .ok w => if t.holds (w &&& mask) (value &&& mask) then .matched w else .finished st acc none

/-- FOLD at position k (R117). -/
def foldAt (st : Store) (range : Operand) (fn : FoldFn) (k : Nat) (acc : Word) : Position :=
  match readAt st range k with
  | .error f => .stopped f
  | .ok w => .finished st (fn.combine acc w) none

/-- APPLY at position k (R119, R120). -/
def applyAt (st : Store) (range : Operand) (fn : ApplyFn) (operand : Word) (k : Nat) (acc : Word) : Position :=
  if fn.reads then
    match readAt st range k with
    | .error f => .stopped f
    | .ok w => writeAt st range k acc (fn.newWord w operand)
  else writeAt st range k acc (fn.newWord 0 operand)

/-- MAP at position k (R123). -/
def mapAt (st : Store) (range table : Operand) (mode : MapMode) (k : Nat) (acc : Word) : Position :=
  match readAt st range k with
  | .error f => .stopped f
  | .ok w =>
    match mapWord st table mode w with
    | .error f => .stopped f
    | .ok v => writeAt st range k acc v

/-- What a block operation does at position k. A direct request has no positions: it would do nothing. -/
def Job.position (j : Job Operand) (st : Store) (k : Nat) (acc : Word) : Position :=
  match j with
  | .copy a b => copyAt st a b k acc
  | .find a t v m => findAt st a t v m k acc
  | .fold a f _ => foldAt st a f k acc
  | .apply a f x => applyAt st a f x k acc
  | .map a t m => mapAt st a t m k acc
  | _ => .finished st acc none

/-! ### Strides -/

/-- What a stride did: the Store and accumulator after it, the positions done, the marks of the words written in the
order taken, and how it ended early, if it did. -/
structure StrideRun where
  store : Store
  acc : Word
  done : Nat
  marks : List Bool
  fault : Option StrideFault
  found : Option Word
  deriving DecidableEq, Repr

/-- The position after k in a direction (R89). -/
def Direction.after (d : Direction) (k : Nat) : Nat :=
  match d with
  | .upward => k + 1
  | .downward => k - 1

/-- Take up to n positions from k on, in a direction, stopping at a damaged word or after a match (R89, R33, R115). -/
def Job.positions (j : Job Operand) (d : Direction) : Nat → Nat → Store → Word → StrideRun
  | 0, _, st, acc => { store := st, acc := acc, done := 0, marks := [], fault := none, found := none }
  | n + 1, k, st, acc =>
    match j.position st k acc with
    | .finished st' acc' mark =>
      let r := j.positions d n (d.after k) st' acc'
      { r with done := r.done + 1, marks := mark.toList ++ r.marks }
    | .stopped f => { store := st, acc := acc, done := 0, marks := [], fault := some f, found := none }
    | .matched w => { store := st, acc := acc, done := 1, marks := [], fault := none, found := some w }

/-- Perform a stride for a slot. -/
def Stride.run (r : Stride) (sl : Slot) (st : Store) : StrideRun :=
  sl.job.positions sl.cursor.dir r.size r.start st sl.cursor.acc

/-- The operand whose words a block operation writes (R126). -/
def Job.written (j : Job Operand) : Operand :=
  match j with
  | .copy _ b => b
  | j => j.main

/-- The write report of a stride: the words of the positions done, ascending (R79, R111, R126). -/
def Stride.report (r : Stride) (sl : Slot) (run : StrideRun) : Option WriteReport :=
  match sl.cursor.dir with
  | .upward => reportOf r.owner.link (sl.job.written.first + r.start) run.marks
  | .downward =>
    reportOf r.owner.link (sl.job.written.first + r.start + 1 - run.marks.length) run.marks.reverse

/-- The cursor after a stride (R93, R108). -/
def Cursor.advance (c : Cursor) (run : StrideRun) : Cursor :=
  { done := c.done + run.done
    next := match c.dir with
      | .upward => c.next + run.done
      | .downward => c.next - run.done
    acc := run.acc
    dir := c.dir }

/-! ### Accesses abandoned at the fall of RSTN (R39, R105)

`extent` is how far the access had come, a free value (log 6). -/

/-- The Store after an abandoned direct access: some number of its words, from none to all, have been written. -/
def DirectAccess.abandoned (a : DirectAccess) (st : Store) (extent : Nat) : Store :=
  match a.job with
  | .write r => (st.writeRun r.first (a.data.take (min extent a.data.length))).1
  | .exchange r c m v => if extent = 0 then st else (runExchange st r c m v).store
  | _ => st

/-- The Store after an abandoned stride: some number of its positions, from none to all but the last, have been
taken. -/
def Stride.abandoned (r : Stride) (sl : Slot) (st : Store) (extent : Nat) : Store :=
  (sl.job.positions sl.cursor.dir (min extent (r.size - 1)) r.start st sl.cursor.acc).store

end Sys2Proof.Machine
end

