-- ==== Sys2Proof/Machine/Transactions.lean ====
section
/-! DEFINITION. The Transaction Table: outcomes by phase (R16 to R19), timer expiries (R14, R21), admission (R11, R12). -/

namespace Sys2Proof.Machine

/-! ### Outcomes -/

/-- The ticks of a hold time: none for 0, else 1,000 ticks a millisecond (R20). -/
def holdTicks (hold : Half) : Option Nat := if hold = 0 then none else some (hold.toNat * 1000)

/-- An outcome handled in phase UNANSWERED: the ANSWER goes into the reservation and the slot is FREE (R17). -/
def Link.answerOutcome (l : Link) (k : SlotIdx) (sl : Slot) (o : Outcome) : Link :=
  (l.setSlot k none).placeReply (.answer o.status sl.tag o.words)

/-- The HELD record of a slot (R18, R20, R192): the outcome and the words done are kept; the data area is discarded,
a READ's words being its result words (R71, R74; log 15). -/
def Slot.heldWith (sl : Slot) (hold : Half) (o : Outcome) : Slot :=
  { sl with state := .held, outcome := some o, data := [], holdTimer := holdTicks hold }

/-- An outcome handled in phase DEFERRED: the slot is HELD, and READY is queued if notify is on (R18). -/
def Link.holdOutcome (l : Link) (k : SlotIdx) (sl : Slot) (o : Outcome) : Link :=
  let held := l.setSlot k (some (sl.heldWith l.hold o))
  if l.notify then held.queueNotice (.ready sl.tag sl.job.kind o.status) else held

/-- The Transaction Table handles the outcome of slot i by its phase (R16 to R19). -/
def State.handleOutcome (s : State) (i : SlotId) (o : Outcome) : State :=
  match s.slot i with
  | none => s
  | some sl =>
    match sl.phase with
    | .unanswered => s.updLink i.link fun l => l.answerOutcome i.idx sl o
    | .deferred => s.updLink i.link fun l => l.holdOutcome i.idx sl o
    | .silent => s.setSlot i none

/-- The outcome CANCELLED: the words done, and for FOLD the accumulator (R25, R70, R109). -/
def Slot.cancelledOutcome (sl : Slot) : Outcome :=
  { status := .cancelled
    words := match sl.job with
      | .fold .. => [numWord sl.cursor.done, sl.cursor.acc]
      | _ => [numWord sl.cursor.done] }

/-! ### Expiries -/

/-- The record of a deferred slot: the reservation is consumed and the budget timer removed (R12, R14, R146). -/
def Slot.deferred (sl : Slot) : Slot := { sl with phase := .deferred, reserved := false, budgetTimer := none }

/-- DEFERRED is placed in the slot's reservation and its phase becomes DEFERRED (R12, R14). -/
def Link.deferSlot (l : Link) (k : SlotIdx) (sl : Slot) : Link :=
  (l.setSlot k (some sl.deferred)).placeReply (.deferred sl.tag)

/-- A budget timer expires (R14). -/
def State.budgetExpires (s : State) (i : SlotId) (sl : Slot) : State :=
  s.updLink i.link fun l => l.deferSlot i.idx sl

/-- A hold timer expires: the result is discarded, DROPPED is queued and counted (R21). -/
def Link.dropHeld (l : Link) (k : SlotIdx) (sl : Slot) : Link :=
  { (l.setSlot k none).queueNotice (.dropped sl.tag sl.job.kind) with dropped := countUp counterMax l.dropped }

/-- A hold timer expires (R21). -/
def State.holdExpires (s : State) (i : SlotId) (sl : Slot) : State :=
  s.updLink i.link fun l => l.dropHeld i.idx sl

/-! ### Admission (R7 steps 5 to 7, R11) -/

/-- The direction of a COPY: DOWNWARD when the ranges overlap and the destination lies above the source (R110). -/
def copyDirection (source destination : Operand) : Direction :=
  if source.overlaps destination && decide (source.first < destination.first) then .downward else .upward

/-- The cursor at admission (R108, R110). -/
def Job.startCursor (j : Job Operand) : Cursor :=
  match j with
  | .copy a b =>
    match copyDirection a b with
    | .upward => { done := 0, next := 0, acc := 0, dir := .upward }
    | .downward => { done := 0, next := a.count - 1, acc := 0, dir := .downward }
  | .fold _ _ initial => { done := 0, next := 0, acc := initial, dir := .upward }
  | _ => { done := 0, next := 0, acc := 0, dir := .upward }

/-- The ticks of an answer budget: none for 0 (R12, R13). -/
def budgetTicks (budget : Half) : Option Nat := if budget = 0 then none else some budget.toNat

/-- The record of a request at its admission on a link (R2, R11). -/
def newSlot (l : Link) (admission : Nat) (tag : Tag) (r : DataRequest) (job : Job Operand) : Slot :=
  { state := if job.isBlock then .queued else .waiting
    phase := if r.posted then .silent else .unanswered
    tag := tag
    job := job
    admission := admission
    priority := l.priority
    data := r.data
    cursor := job.startCursor
    cancelMark := false
    outcome := none
    reserved := !r.posted
    budgetTimer := if r.posted then none else budgetTicks l.budget
    holdTimer := none }

/-- Admission into slot k of link n: the record is written and the admission count goes up (R4, R11); under a budget
of 0 a request that is not posted is deferred at once (R12). -/
def State.admission (s : State) (n : LinkId) (k : SlotIdx) (tag : Tag) (r : DataRequest) (job : Job Operand) : State :=
  let sl := newSlot (s.link n) s.admissions tag r job
  let t := { s.setSlot ⟨n, k⟩ (some sl) with admissions := s.admissions + 1 }
  if !r.posted && decide ((s.link n).budget = 0) then t.updLink n fun l => l.deferSlot k sl else t

end Sys2Proof.Machine
end

