-- ==== Sys2Proof/Machine/Engine.lean ====
section
/-! DEFINITION. The Block Engine's settlement of stride completions (R92 to R100) and the completion of a STOPPING
slot's stride (R103); the completion of a direct access (R69, R68). The dispatch and the port's choice that follow
in the same event are made by `settle` (Intake.lean; log 11). -/

namespace Sys2Proof.Machine

/-- A FIND matched in this stride, or the words done equal the count (R94, case 2). -/
def strideFinished (sl : Slot) (run : StrideRun) : Bool :=
  run.found.isSome || decide (sl.cursor.done = sl.job.count)

/-- The outcome STOREFAULT of a block operation: offset, words done, for FOLD the accumulator, for MAP the operand
indicator (R95, R109, R124). `sl` carries the advanced cursor. -/
def Slot.faultOutcome (sl : Slot) (f : StrideFault) : Outcome :=
  { status := .storeFault
    words := match sl.job with
      | .fold .. => [numWord f.offset, numWord sl.cursor.done, sl.cursor.acc]
      | .map .. => [numWord f.offset, numWord sl.cursor.done, if f.table then 1 else 0]
      | _ => [numWord f.offset, numWord sl.cursor.done] }

/-- An operation's own outcome (R96, R113, R116, R118, R121, R125). `sl` carries the advanced cursor. -/
def Slot.ownOutcome (sl : Slot) (found : Option Word) : Outcome :=
  match sl.job with
  | .find range .. =>
    match found with
    | some w => { status := .ok, words := [numWord (range.offset + (sl.cursor.done - 1)), w] }
    | none => { status := .notFound, words := [numWord sl.cursor.done] }
  | .fold .. => { status := .ok, words := [sl.cursor.acc, numWord sl.cursor.done] }
  | _ => { status := .ok, words := [numWord sl.cursor.done] }

/-- The settlement of a stride completion, by the first case of R94 that applies. `sl` carries the advanced cursor
and is slot i's record. A suspension leaves the engine to `dispatch`, which follows in the same event (R99). -/
def State.settleStride (s : State) (i : SlotId) (sl : Slot) (run : StrideRun) : State :=
  match run.fault with
  | some f => s.handleOutcome i (sl.faultOutcome f)
  | none =>
    if strideFinished sl run then s.handleOutcome i (sl.ownOutcome run.found)
    else if sl.cancelMark then s.handleOutcome i sl.cancelledOutcome
    else if s.preempts sl.priority then s.setSlot i (some { sl with state := .suspended })
    else { s with stride := some (nextStride i sl) }

/-- The store-fault count after an access (R36). -/
def countFault (fault : Bool) (faults : Nat) : Nat := if fault then countUp counterMax faults else faults

/-- The completion of a stride of the RUNNING operation in slot r.owner, in the order of R92, up to the settlement. -/
def State.completeStride (s : State) (r : Stride) (sl : Slot) : State :=
  let run := r.run sl s.store
  let sl' := { sl with cursor := sl.cursor.advance run }
  let t := { s with store := run.store, port := .idle, faults := countFault run.fault.isSome s.faults }
  let t := t.handReport (r.report sl run)
  (t.setSlot r.owner (some sl')).settleStride r.owner sl' run

/-- The completion of a STOPPING slot's stride, steps 1 to 3 of R103: the slot is FREE with no outcome. -/
def State.completeStopping (s : State) (r : Stride) (sl : Slot) : State :=
  let run := r.run sl s.store
  let t := { s with store := run.store, port := .idle, faults := countFault run.fault.isSome s.faults }
  let t := t.handReport (r.report sl run)
  t.setSlot r.owner none

/-- The completion of a direct access, steps 1 to 3 of R69: the fault is counted, the report handed, and the outcome
handled, or discarded when a reset has freed the slot (R68). -/
def State.completeDirect (s : State) (a : DirectAccess) : State :=
  let run := a.run s.store
  let t := { s with store := run.store, port := .idle, faults := countFault run.fault s.faults }
  let t := t.handReport (reportOf a.owner.link run.first run.marks)
  if a.live then t.handleOutcome a.owner run.outcome else t

end Sys2Proof.Machine
end

