-- ==== Sys2Proof/Machine/Resets.lean ====
section
/-! DEFINITION. Resets: what the acceptance of a LINKRESET or RESTART does (R30, R102, R104, R140, R158, R184, R187),
their completion (R185, R188), the fall of RSTN (R31, R39, R105, R189), and the opening of service (R190). -/

namespace Sys2Proof.Machine

/-! ### Acceptance -/

/-- The record of a slot whose RUNNING stride is in progress when its link is reset: STOPPING, with no reservation and
no timer (R30). -/
def Slot.toStopping (sl : Slot) : Slot :=
  { sl with state := .stopping, reserved := false, budgetTimer := none, holdTimer := none }

/-- A slot under a reset of its link (R30): a RUNNING one whose stride is in progress becomes STOPPING, a STOPPING one
stays so, every other becomes FREE. -/
def resetSlot (inProgress : Bool) (v : Option Slot) : Option Slot :=
  match v with
  | none => none
  | some sl =>
    match sl.state with
    | .running => if inProgress then some sl.toStopping else none
    | .stopping => some sl
    | .waiting | .queued | .suspended | .held => none

/-- The stride in progress at the Store Port is made for slot i. -/
def State.strideInProgress (s : State) (i : SlotId) : Bool :=
  match s.port with
  | .stride r => decide (r.owner = i)
  | _ => false

/-- A link at the acceptance of its reset (R158, R184, R187): its slots by R30, its lists emptied but for the frame in
transmission, its counters and its consecutive-reply count 0. -/
def Link.reset (l : Link) (cause : ResetCause) (inProgress : SlotIdx → Bool) : Link :=
  { l with
    status := .resetting cause
    slots := Vector.ofFn fun k => resetSlot (inProgress k) (l.slot k)
    replies := if l.transmitter = .reply then l.replies.take 1 else []
    notices := if l.transmitter = .notice then l.notices.take 1 else []
    badFrames := 0
    lost := 0
    dropped := 0
    streak := 0 }

/-- The access in progress at the port under a reset of links: a direct access loses its slot and goes on (R68). -/
def Port.reset (p : Port) (targets : LinkId → Bool) : Port :=
  match p with
  | .direct a => if targets a.owner.link then .direct { a with live := false } else p
  | _ => p

/-- The acceptance of a reset of some links: slots, stride candidate, watches, lists and counters (R184 steps 1 to 5,
R187 steps 1 to 5). -/
def State.resetLinks (s : State) (targets : LinkId → Bool) (cause : ResetCause) : State :=
  let t := s.mapLinks fun n l =>
    if targets n then l.reset cause fun k => s.strideInProgress ⟨n, k⟩ else l
  { t.dropWatchesOf targets with
    stride := s.stride.filter fun r => !targets r.owner.link
    port := s.port.reset targets }

/-! ### Completion -/

/-- A link opens at the completion of its reset: its Inbound Buffer is emptied (R185, R188). -/
def Link.reopen (l : Link) : Link := { l with inbox := [], status := .opened }

/-- The requester's ANSWER at the completion of a LINKRESET of link t: on its own link always, on another only if that
link still awaits this reset (R147, R185, R186). -/
def State.answerLinkreset (s : State) (t requester : LinkId) (tag : Tag) : State :=
  if requester = t then s.placeReply t (.answer .ok tag [])
  else if (s.link requester).status = .awaiting t then
    s.updLink requester fun l => { l.placeReply (.answer .ok tag []) with status := .opened }
  else s

/-- A LINKRESET of link t completes (R185). -/
def State.completeLinkreset (s : State) (t requester : LinkId) (tag : Tag) : State :=
  ((s.updLink t Link.reopen).answerLinkreset t requester tag).queueNotice t (.restarted .linkreset requester)

/-- A RESTART completes (R188). -/
def State.completeRestart (s : State) (requester : LinkId) : State :=
  { s.mapLinks fun _ l => l.reopen.queueNotice (.restarted .restart requester) with
    admissions := 0, marker := .engine }

/-- The RESTART in progress, by its requester (R187). -/
def State.restartInProgress (s : State) : Option LinkId :=
  linkIds.findSome? fun n =>
    match (s.link n).status with
    | .resetting (.restart requester) => some requester
    | _ => none

/-- A LINKRESET of link t that is in progress completes if no slot of link t is STOPPING (R185). -/
def State.finishLinkreset (s : State) (t : LinkId) : State :=
  match (s.link t).status with
  | .resetting (.linkreset requester tag) => if s.stoppingOn t then s else s.completeLinkreset t requester tag
  | _ => s

/-- The resets in progress that can complete do so: the RESTART when no slot of the part is STOPPING (R188), else each
LINKRESET when no slot of its link is (R185). -/
def State.completeResets (s : State) : State :=
  match s.restartInProgress with
  | some requester => if s.stopping then s else s.completeRestart requester
  | none => linkIds.foldl State.finishLinkreset s

/-! ### RSTN and power -/

/-- The Store after an access in progress is abandoned (R39). -/
def State.abandonedStore (s : State) (extent : Nat) : Store :=
  match s.port with
  | .direct a => a.abandoned s.store extent
  | .stride r =>
    match s.slot r.owner with
    | some sl => r.abandoned sl s.store extent
    | none => s.store
  | _ => s.store

/-- The words of the access in progress exist in the Store (log 18). -/
def State.accessInStore (s : State) : Bool :=
  match s.port with
  | .direct a => a.inStore
  | .stride r =>
    match s.slot r.owner with
    | some sl => r.inStore sl
    | none => true
  | _ => true

/-- Everything but the Store, the input lines and the model's own fields at its reset value (R189, R38). -/
def State.cleared (s : State) : State :=
  { s with
    links := Vector.ofFn fun n => Link.atReset n (s.link n).hostHold
    admissions := 0
    segments := segmentsAtReset
    watches := Vector.replicate 32 none
    faults := 0
    marker := .engine
    stride := none }

/-- A link when service opens: OPEN, RESTARTED queued (R190). Its receiver waits for IFRn low (R162). -/
def Link.openService (l : Link) (cause : RestartCause) : Link :=
  { l with status := .opened }.queueNotice (.restarted cause 0)

/-- Service opens on every link, with cause POWER for the first opening after power-on, else PIN (R190). -/
def State.openService (s : State) : State :=
  { s.mapLinks fun _ l => l.openService (if s.opened then .pin else .power) with opened := true }

end Sys2Proof.Machine
end

