-- ==== Sys2Proof/Machine/Takes.lean ====
section
/-! DEFINITION. What Request Intake n does with a request it has taken and decoded: the checks of R7 that need the
state and the effect of each request. Each is one event's part; dispatch, the port's choice and the arbiters follow
in `settle` (Intake.lean). -/

namespace Sys2Proof.Machine

/-! ### Answers -/

/-- A refusal: ANSWER with the refusal status and no result words, in the free place (R10). -/
def State.refuse (s : State) (n : LinkId) (tag : Tag) (st : Status) : State := s.placeReply n (.answer st tag [])

/-- ANSWER OK with result words, in the free place (R149). -/
def State.answerOk (s : State) (n : LinkId) (tag : Tag) (ws : List Word) : State := s.placeReply n (.answer .ok tag ws)

/-! ### Data requests (R7 steps 3 and 5 to 7, R8, R9, R11) -/

/-- A data request taken: BADARG for a MAP whose table overlaps its range, DUPTAG, NOSLOT, the operand checks, else
admission. -/
def State.takeData (s : State) (n : LinkId) (tag : Tag) (r : DataRequest) : State :=
  if s.mapOverlaps r.job then s.refuse n tag .badArg
  else if (s.slotWithTag n tag).isSome then s.refuse n tag .dupTag
  else match s.lowestFree n with
    | none => s.refuse n tag .noSlot
    | some k =>
      match s.translateJob n r.job with
      | .error e => s.refuse n tag e
      | .ok job => s.admission n k tag r job

/-! ### Control requests -/

/-- A CLAIM taken (R22). -/
def State.takeClaim (s : State) (n : LinkId) (tag : Tag) : State :=
  match s.slotWithTag n tag with
  | none => s.refuse n tag .noTag
  | some (k, sl) =>
    match sl.state, sl.outcome with
    | .held, some o => s.updLink n fun l => (l.setSlot k none).placeReply (.answer o.status tag o.words)
    | _, _ => s.placeReply n (.pending tag)

/-- What a CANCEL does to its target (R25, R26, R27). -/
def State.cancelTarget (s : State) (i : SlotId) (sl : Slot) : State :=
  match sl.state with
  | .waiting | .queued | .suspended => s.handleOutcome i sl.cancelledOutcome
  | .running => s.setSlot i (some { sl with cancelMark := true })
  | .held => s.setSlot i none
  | .stopping => s

/-- A CANCEL taken (R24). -/
def State.takeCancel (s : State) (n : LinkId) (tag : Tag) : State :=
  match s.slotWithTag n tag with
  | none => s.refuse n tag .noTag
  | some (k, sl) => (s.cancelTarget ⟨n, k⟩ sl).answerOk n tag []

/-! ### Watch requests -/

/-- A WATCH taken (R130): NOROOM, the translation with a need of READ, else a new watch. -/
def State.takeWatch (s : State) (n : LinkId) (tag : Tag) (seg : SegmentId) (offset count : Nat) (mode : WatchMode)
    (selfOn : Bool) : State :=
  match s.freeWatch with
  | none => s.refuse n tag .noRoom
  | some id =>
    match s.translate n .read ⟨BitVec.ofNat 8 seg.val, offset, count⟩ with
    | .error e => s.refuse n tag e
    | .ok o =>
      (s.setWatch id (some { owner := n, segment := seg, offset := offset, count := count, first := o.first
                             mode := mode, selfOn := selfOn, fired := false, missed := 0 })).answerOk n tag
        [numWord id.val]

/-- A REARM taken (R137). -/
def State.takeRearm (s : State) (n : LinkId) (tag : Tag) (id : WatchId) : State :=
  match s.ownedWatch n id with
  | none => s.refuse n tag .noWatch
  | some w =>
    if w.fired then (s.setWatch id (some { w with fired := false, missed := 0 })).answerOk n tag [numWord w.missed]
    else s.answerOk n tag [numWord 0]

/-- An UNWATCH taken (R138). -/
def State.takeUnwatch (s : State) (n : LinkId) (tag : Tag) (id : WatchId) : State :=
  match s.ownedWatch n id with
  | none => s.refuse n tag .noWatch
  | some _ => (s.setWatch id none).answerOk n tag []

/-! ### Segment requests -/

/-- The direct access in progress names a segment in its operands (R45, R68). -/
def State.accessNames (s : State) (id : SegmentId) : Bool :=
  match s.port with
  | .direct a => a.job.names id
  | _ => false

/-- A slot that is neither FREE nor HELD, or a direct access that goes on after its slot was freed, references a
segment id (R45). -/
def State.segmentInUse (s : State) (id : SegmentId) : Bool :=
  (s.busySlots.any fun p => decide (p.2.state ≠ .held) && p.2.job.names id) || s.accessNames id

/-- Entry id of the Segment Table. -/
def State.segment (s : State) (id : SegmentId) : Option Segment := s.segments[id]

/-- Put entry id of the Segment Table. -/
def State.setSegment (s : State) (id : SegmentId) (g : Option Segment) : State :=
  { s with segments := s.segments.set id g }

/-- A DEFINE taken (R44): NOTADMIN, BADRANGE, INUSE, else the entry is defined; the watches of an entry defined before
are removed (R47). -/
def State.takeDefine (s : State) (n : LinkId) (tag : Tag) (id : SegmentId) (base length : Nat)
    (rights : Vector Right 4) : State :=
  if !(s.link n).admin then s.refuse n tag .notAdmin
  else if storeSize < base + length then s.refuse n tag .badRange
  else if s.segmentInUse id then s.refuse n tag .inUse
  else
    let t := if (s.segment id).isSome then s.dropWatchesOn id else s
    (t.setSegment id (some { base := base, length := length, rights := rights })).answerOk n tag []

/-- A DROP taken (R46): NOTADMIN, NOSEG, INUSE, else the entry is undefined and its watches are removed (R47). -/
def State.takeDrop (s : State) (n : LinkId) (tag : Tag) (id : SegmentId) : State :=
  if !(s.link n).admin then s.refuse n tag .notAdmin
  else if (s.segment id).isNone then s.refuse n tag .noSeg
  else if s.segmentInUse id then s.refuse n tag .inUse
  else ((s.dropWatchesOn id).setSegment id none).answerOk n tag []

/-! ### Link parameters -/

/-- A parameter that only a link with admin may set, whatever the target (R179). -/
def Parameter.privileged : Parameter → Bool
  | .priority _ | .admin _ => true
  | .budget _ | .hold _ | .notify _ => false

/-- A link with a parameter set (R179). -/
def Link.setParameter (l : Link) : Parameter → Link
  | .budget v => { l with budget := v }
  | .hold v => { l with hold := v }
  | .notify b => { l with notify := b }
  | .priority p => { l with priority := p }
  | .admin b => { l with admin := b }

/-- A LINKSET taken (R179). -/
def State.takeLinkset (s : State) (n : LinkId) (tag : Tag) (target : LinkId) (p : Parameter) : State :=
  if !(s.link n).admin && (p.privileged || decide (target ≠ n)) then s.refuse n tag .notAdmin
  else (s.updLink target fun l => l.setParameter p).answerOk n tag []

/-! ### Queries (R181 to R183, R144) -/

/-- A switch as a result word: 1 for on or yes, 0 for off or no (R182). -/
def switchWord (b : Bool) : Word := if b then 1 else 0

/-- The state code of QUERY LINK (R182); none is given for CLOSED, which no query can meet (log 17). -/
def LinkStatus.word : LinkStatus → Word
  | .opened => 0
  | .awaiting _ => 1
  | .resetting _ => 2
  | .closed => Config.closedLinkCode 0

/-- PART (R182). -/
def State.partWords (s : State) : List Word := [0x02C5, 0x0404, 1, 65536, 8, 64, 32, numWord s.faults]

/-- LINK (R182). -/
def State.linkWords (s : State) (n : LinkId) : List Word :=
  let l := s.link n
  [numWord n.val, l.status.word, numWord l.budget.toNat, numWord l.hold.toNat, switchWord l.notify,
   numWord l.priority.val, switchWord l.admin, numWord l.badFrames, numWord l.lost, numWord l.dropped]

/-- Put a slot at its place in ascending admission number. -/
def joinByAdmission (e : SlotIdx × Slot) : List (SlotIdx × Slot) → List (SlotIdx × Slot)
  | [] => [e]
  | x :: rest => if x.2.admission < e.2.admission then x :: joinByAdmission e rest else e :: x :: rest

/-- The two words of a slot (R183, R192). -/
def Slot.queryWords (sl : Slot) : List Word :=
  [packWord sl.tag.toNat sl.job.kind.code.toNat sl.state.code sl.phase.code, numWord sl.cursor.done]

/-- SLOTS (R183): two words a slot, in ascending admission number. -/
def State.slotsWords (s : State) (n : LinkId) : List Word :=
  ((s.busyOn n).foldr joinByAdmission []).flatMap fun p => p.2.queryWords

/-- SEGMENT (R183). -/
def State.segmentWords (s : State) (id : SegmentId) : List Word :=
  match s.segment id with
  | none => [0, 0, 0, 0]
  | some g =>
    [1, numWord g.base, numWord g.length,
     packWord (g.right 0).code (g.right 1).code (g.right 2).code (g.right 3).code]

/-- The two words of a watch (R183). -/
def Watch.queryWords (w : Watch) (id : WatchId) : List Word :=
  [packWord id.val w.segment.val
     (w.mode.code.toNat + (if w.selfOn then 2 else 0) + (if w.fired then 4 else 0)) w.missed,
   BitVec.ofNat 16 w.offset ++ BitVec.ofNat 16 (w.count - 1)]

/-- WATCHES (R144, R183): two words for each watch of link n, in ascending id. -/
def State.watchesWords (s : State) (n : LinkId) : List Word :=
  watchIds.flatMap fun id =>
    match s.ownedWatch n id with
    | none => []
    | some w => w.queryWords id

/-- A QUERY taken (R181): NOTADMIN for another link's LINK without admin, else the result words. -/
def State.takeQuery (s : State) (n : LinkId) (tag : Tag) : Selector → State
  | .part => s.answerOk n tag s.partWords
  | .link m =>
    if m ≠ n ∧ (s.link n).admin = false then s.refuse n tag .notAdmin else s.answerOk n tag (s.linkWords m)
  | .slots => s.answerOk n tag (s.slotsWords n)
  | .segment id => s.answerOk n tag (s.segmentWords id)
  | .watches => s.answerOk n tag (s.watchesWords n)

/-! ### Resets -/

/-- Link n waits for the reset of another link that it asked for (R184 step 1). -/
def State.awaitReset (s : State) (n t : LinkId) : State :=
  if n = t then s else s.updLink n fun l => { l with status := .awaiting t }

/-- A LINKRESET of link t taken (R184): NOTADMIN, BUSY, else accepted. Its completion follows in the same event when no
slot of link t is STOPPING (`completeResets`). -/
def State.takeLinkreset (s : State) (n : LinkId) (tag : Tag) (t : LinkId) : State :=
  if t ≠ n ∧ (s.link n).admin = false then s.refuse n tag .notAdmin
  else if (s.link t).isResetting then s.refuse n tag .busy
  else (s.awaitReset n t).resetLinks (fun m => decide (m = t)) (.linkreset n tag)

/-- A RESTART taken (R187): NOTADMIN, else accepted, with no reply. -/
def State.takeRestart (s : State) (n : LinkId) (tag : Tag) : State :=
  if (s.link n).admin = false then s.refuse n tag .notAdmin
  else s.resetLinks (fun _ => true) (.restart n)

/-! ### Any request -/

/-- A decoded request taken by Request Intake n. -/
def State.takeRequest (s : State) (n : LinkId) (tag : Tag) : Request → State
  | .data r => s.takeData n tag r
  | .claim => s.takeClaim n tag
  | .cancel => s.takeCancel n tag
  | .watch seg off c m w => s.takeWatch n tag seg off c m w
  | .rearm id => s.takeRearm n tag id
  | .unwatch id => s.takeUnwatch n tag id
  | .define id b len r => s.takeDefine n tag id b len r
  | .drop id => s.takeDrop n tag id
  | .linkset t p => s.takeLinkset n tag t p
  | .query q => s.takeQuery n tag q
  | .linkreset t => s.takeLinkreset n tag t
  | .restart => s.takeRestart n tag

/-- A frame taken by Request Intake n: refused by the first check that fails, or taken as its request (R7, R171). -/
def State.takeFrame (s : State) (n : LinkId) (f : Frame) : State :=
  match parseFrame f with
  | .error e => s.refuse n f.tag e
  | .ok r => s.takeRequest n f.tag r

end Sys2Proof.Machine
end

