-- ==== Sys2Proof/Machine/Intake.lean ====
section
/-! DEFINITION. What follows inside one event (log 11, log 12): resets complete, the engine dispatches, the port chooses,
each Request Intake takes a frame if it can, the Outbound Arbiters start frames. And the arrival of a frame at
a link (R162 to R166). -/

namespace Sys2Proof.Machine

/-! ### The Outbound Arbiter (R155, R156) -/

/-- OFRn when a frame is started: it rises, unless it has only just fallen at the end of another frame (R161, R168;
log 28). -/
def OutLine.start (o : OutLine) : OutLine := if o = .gap then .gap else .high

/-- Start the oldest reply (R156). -/
def Link.startReply (l : Link) : Link :=
  { l with
    transmitter := .reply, outLine := l.outLine.start
    streak := if l.notices = [] then 0 else l.streak + 1 }

/-- Start the oldest notice (R156). -/
def Link.startNotice (l : Link) : Link :=
  { l with transmitter := .notice, outLine := l.outLine.start, streak := 0 }

/-- The consecutive-reply count at which a waiting notice goes first (R156). -/
def streakLimit : Nat := 4

/-- The Outbound Arbiter chooses when the transmitter is free, HHLDn is not asserted and a frame waits (R155): by the
first case of R156. -/
def Link.arbitrate (l : Link) : Link :=
  if l.transmitter ≠ .free ∨ l.hostHold = true then l
  else if l.notices ≠ [] ∧ (streakLimit ≤ l.streak ∨ l.replies = []) then l.startNotice
  else if l.replies ≠ [] then l.startReply
  else l

/-- Every Outbound Arbiter chooses. -/
def State.arbitrate (s : State) : State := s.mapLinks fun _ l => l.arbitrate

/-! ### Request Intake (R147, R166) -/

/-- Resets that can complete do so, the engine dispatches, and the port chooses, in this order (R65, R92, R103). -/
def State.react (s : State) : State := s.completeResets.dispatch.portChoose

/-- Request Intake n takes the head frame of its Inbound Buffer if it may (R147, R166), with what follows from it. It takes
one frame in an event: the next waits for the next event (R166, R167; log 12). -/
def State.intake (s : State) (n : LinkId) : State :=
  match (s.link n).inbox with
  | [] => s
  | f :: rest =>
    if s.intakeAble n then ((s.updLink n fun l => { l with inbox := rest }).takeFrame n f).react else s

/-- What follows in an event from what the event did (log 11). Where a frame taken here is a reset that leaves the engine
IDLE, after a dispatch in the same event, the engine dispatches again: R85 and R102 ask for it and R88 allows one dispatch
in an event, which the manual leaves open (log 27). -/
def State.settle (s : State) : State := (linkIds.foldl State.intake s.react).arbitrate

/-! ### Receiving (R162, R163, R164, R166) -/

/-- The frames an Inbound Buffer holds at most (R166). -/
def inboxRoom : Nat := 2

/-- A CLOSED receiver that has opened (its link is not CLOSED) becomes IDLE (R162). -/
def Link.seeLow (l : Link) : Link :=
  if l.receiver = .closed ∧ l.status ≠ .closed then { l with receiver := .idle } else l

/-- A frame begins: the receiver, IDLE, starts ASSEMBLING, or SKIPPING when the buffer is full (R162). In any other
state no frame can begin (log 2), and a CLOSED receiver ignores it. -/
def Link.beginFrame (l : Link) : Link :=
  if l.receiver = .idle then
    { l with receiver := if l.inbox.length < inboxRoom then .assembling else .skipping }
  else l

/-- A frame is discarded: the bad-frame count goes up and BADFRAME is queued (R164). -/
def Link.discardFrame (l : Link) (why : BadFrame) : Link :=
  let l' := { l with badFrames := countUp counterMax l.badFrames }
  l'.queueNotice (.badframe why l'.badFrames)

/-- The frame in progress ends, the checks of R163 having come to `checked`; a skipped frame is discarded OVERRUN. The edge
that ends a frame has IFRn low (R160): a CLOSED receiver that has opened becomes IDLE at it (R162). With no frame in
progress nothing ends (log 2). -/
def Link.endFrame (l : Link) (checked : Except BadFrame Frame) : Link :=
  match l.receiver with
  | .assembling =>
    match checked with
    | .ok f => { l with receiver := .idle, inbox := l.inbox ++ [f] }
    | .error why => { l with receiver := .idle }.discardFrame why
  | .skipping => { l with receiver := .idle }.discardFrame .overrun
  | .closed => l.seeLow
  | .idle => l

/-- A whole frame arrives on a link: IFRn is low before it, it begins, unless one is in progress already, and it ends with
its right CRC (R160, R161; log 1). -/
def Link.receive (l : Link) (f : Frame) : Link := (l.seeLow.beginFrame).endFrame (receiveFrame f)

/-- The arrival of a whole frame on link n, and what follows: Request Intake takes it in this event if it may (R166). -/
def State.deliver (s : State) (n : LinkId) (f : Frame) : State := (s.updLink n fun l => l.receive f).settle

end Sys2Proof.Machine
end

