-- ==== Sys2Proof/Machine/ControlRequests.lean ====
section
/-! DEFINITION. The control requests: CLAIM, CANCEL.

Each of these rows stands for the arrival of its frame, whole and good, on link n; Request Intake n takes it in the same
event when R147 lets it, and it waits in the Inbound Buffer otherwise (log 1). The frame's kind code is R172's. What the
request then does is said by `State.takeClaim` and `State.takeCancel` (Takes.lean). -/

namespace Sys2Proof.Machine

/-- CLAIM (R22). -/
def execClaim (n : LinkId) (h : Header) (payload : List Octet) (s : State) : Host.Outcome State Fault Refusal :=
  .next (s.deliver n (h.frame 0x30 payload))

/-- CANCEL (R24 to R27). -/
def execCancel (n : LinkId) (h : Header) (payload : List Octet) (s : State) : Host.Outcome State Fault Refusal :=
  .next (s.deliver n (h.frame 0x31 payload))

end Sys2Proof.Machine
end

