-- ==== Sys2Proof/Machine/DataRequests.lean ====
section
/-! DEFINITION. The data requests: READ, WRITE, POSTED_WRITE, EXCHANGE, COPY, FIND, FOLD, APPLY, MAP.

Each of these rows stands for the arrival of its frame, whole and good, on link n; Request Intake n takes it in the same
event when R147 lets it, and it waits in the Inbound Buffer otherwise (log 1). The frame's kind code is R172's. What the
request then does is said by `State.takeData` (Takes.lean). -/

namespace Sys2Proof.Machine

/-- READ (R71, R7 to R12): refused, or admitted WAITING. -/
def execRead (n : LinkId) (h : Header) (payload : List Octet) (s : State) : Host.Outcome State Fault Refusal :=
  .next (s.deliver n (h.frame 0x10 payload))

/-- WRITE (R74), not posted: refused, or admitted WAITING in phase UNANSWERED. -/
def execWrite (n : LinkId) (h : Header) (payload : List Octet) (s : State) : Host.Outcome State Fault Refusal :=
  .next (s.deliver n (h.unposted.frame 0x11 payload))

/-- POSTED_WRITE (R75): refused, or admitted WAITING in phase SILENT with no reservation and no budget timer. -/
def execPostedWrite (n : LinkId) (h : Header) (payload : List Octet) (s : State) : Host.Outcome State Fault Refusal :=
  .next (s.deliver n (h.posted.frame 0x11 payload))

/-- EXCHANGE (R77): refused, or admitted WAITING. -/
def execExchange (n : LinkId) (h : Header) (payload : List Octet) (s : State) : Host.Outcome State Fault Refusal :=
  .next (s.deliver n (h.frame 0x12 payload))

/-- COPY (R110): refused, or admitted QUEUED with its direction fixed. -/
def execCopy (n : LinkId) (h : Header) (payload : List Octet) (s : State) : Host.Outcome State Fault Refusal :=
  .next (s.deliver n (h.frame 0x20 payload))

/-- FIND (R114): refused, or admitted QUEUED. -/
def execFind (n : LinkId) (h : Header) (payload : List Octet) (s : State) : Host.Outcome State Fault Refusal :=
  .next (s.deliver n (h.frame 0x21 payload))

/-- FOLD (R117): refused, or admitted QUEUED with its accumulator at the initial value. -/
def execFold (n : LinkId) (h : Header) (payload : List Octet) (s : State) : Host.Outcome State Fault Refusal :=
  .next (s.deliver n (h.frame 0x22 payload))

/-- APPLY (R119): refused, or admitted QUEUED. -/
def execApply (n : LinkId) (h : Header) (payload : List Octet) (s : State) : Host.Outcome State Fault Refusal :=
  .next (s.deliver n (h.frame 0x23 payload))

/-- MAP (R122): refused, the table overlap test included, or admitted QUEUED. -/
def execMap (n : LinkId) (h : Header) (payload : List Octet) (s : State) : Host.Outcome State Fault Refusal :=
  .next (s.deliver n (h.frame 0x24 payload))

end Sys2Proof.Machine
end

