-- ==== Sys2Proof/Machine/LinkLines.lean ====
section
/-! DEFINITION. Events on the lines of a link: FRAME_BEGIN, FRAME_END, IFR_SEEN_LOW, HHLD_RISE, HHLD_FALL,
TRANSMISSION_COMPLETE. Every event lets a Request Intake take a frame that waits and may be taken (R166). -/

namespace Sys2Proof.Machine

/-- FRAME_BEGIN (R162). -/
def execFrameBegin (n : LinkId) (s : State) : Host.Outcome State Fault Refusal :=
  .next (s.updLink n Link.beginFrame).settle

/-- FRAME_END (R163, R164, R166): the bits of the frame in progress are checked; a good frame joins the Inbound Buffer,
and Request Intake takes what it may in this event. -/
def execFrameEnd (n : LinkId) (bits : List Bool) (s : State) : Host.Outcome State Fault Refusal :=
  .next (s.updLink n fun l => l.endFrame (receiveBits bits)).settle

/-- IFR_SEEN_LOW (R162). -/
def execIfrSeenLow (n : LinkId) (s : State) : Host.Outcome State Fault Refusal :=
  .next (s.updLink n Link.seeLow).settle

/-- HHLD_RISE (R169): no further frame is started; the one in progress goes on. -/
def execHhldRise (n : LinkId) (s : State) : Host.Outcome State Fault Refusal :=
  .next (s.updLink n fun l => { l with hostHold := true }).settle

/-- HHLD_FALL (R169): the Outbound Arbiter chooses. -/
def execHhldFall (n : LinkId) (s : State) : Host.Outcome State Fault Refusal :=
  .next (s.updLink n fun l => { l with hostHold := false }).settle

/-- OVERFLOW, when a notice's place frees while the lost-notice count is not 0; the count becomes 0 (R153). -/
def Link.queueOverflow (l : Link) : Link :=
  if l.lost = 0 then l else { l.queueNotice (.overflow l.lost) with lost := 0 }

/-- A transmission completes: OFRn falls, the frame leaves its list, and a notice's place is offered to OVERFLOW (R153, R155,
R168). -/
def Link.endTransmission (l : Link) : Link :=
  match l.transmitter with
  | .free => l
  | .reply => { l with transmitter := .free, outLine := .gap, replies := l.replies.drop 1 }
  | .notice => { l with transmitter := .free, outLine := .gap, notices := l.notices.drop 1 }.queueOverflow

/-- TRANSMISSION_COMPLETE (R155, R168): the freed place is used and the arbiter chooses. With no transmission in progress
nothing completes (log 2). -/
def execTransmissionComplete (n : LinkId) (s : State) : Host.Outcome State Fault Refusal :=
  if (s.link n).transmitter = .free then .next s
  else .next (s.updLink n Link.endTransmission).settle

end Sys2Proof.Machine
end

