-- ==== Sys2Proof/Machine/LinkParameters.lean ====
section
/-! DEFINITION. The LINKSET rows, by parameter code (R175, R179).

Each of these rows stands for the arrival of its frame, whole and good, on link n; Request Intake n takes it in the same
event when R147 lets it, and it waits in the Inbound Buffer otherwise (log 1). The frame's kind code is R172's. What the
request then does is said by `State.takeLinkset` (Takes.lean). -/

namespace Sys2Proof.Machine

/-- LINKSET with parameter BUDGET (R179). -/
def execLinksetBudget (n : LinkId) (h : Header) (target : Octet) (value : List Octet) (s : State) : Host.Outcome State Fault Refusal :=
  .next (s.deliver n (h.frame 0x52 (target :: 0 :: value)))

/-- LINKSET with parameter HOLD (R179). -/
def execLinksetHold (n : LinkId) (h : Header) (target : Octet) (value : List Octet) (s : State) : Host.Outcome State Fault Refusal :=
  .next (s.deliver n (h.frame 0x52 (target :: 1 :: value)))

/-- LINKSET with parameter NOTIFY (R179). -/
def execLinksetNotify (n : LinkId) (h : Header) (target : Octet) (value : List Octet) (s : State) : Host.Outcome State Fault Refusal :=
  .next (s.deliver n (h.frame 0x52 (target :: 2 :: value)))

/-- LINKSET with parameter PRIORITY (R179). -/
def execLinksetPriority (n : LinkId) (h : Header) (target : Octet) (value : List Octet) (s : State) : Host.Outcome State Fault Refusal :=
  .next (s.deliver n (h.frame 0x52 (target :: 3 :: value)))

/-- LINKSET with parameter ADMIN (R179). -/
def execLinksetAdmin (n : LinkId) (h : Header) (target : Octet) (value : List Octet) (s : State) : Host.Outcome State Fault Refusal :=
  .next (s.deliver n (h.frame 0x52 (target :: 4 :: value)))

/-- LINKSET_UNKNOWN_PARAMETER (R179): refused BADARG or BADLEN. -/
def execLinksetUnknownParameter (n : LinkId) (h : Header) (payload : List Octet) (s : State) : Host.Outcome State Fault Refusal :=
  .next (s.deliver n (h.frame 0x52 payload))

end Sys2Proof.Machine
end

