-- ==== Sys2Proof/Machine/PortEvents.lean ====
section
/-! DEFINITION. Completions at the Store Port: DIRECT_ACCESS_COMPLETE, STRIDE_COMPLETE, STOPPING_STRIDE_COMPLETE. With no
such access in progress nothing completes (log 2). -/

namespace Sys2Proof.Machine

/-- DIRECT_ACCESS_COMPLETE (R69, R68). -/
def execDirectAccessComplete (s : State) : Host.Outcome State Fault Refusal :=
  match s.port with
  | .direct a => if a.inStore then .next (s.completeDirect a).settle else .fault .outsideStore
  | _ => .next s

/-- The slot the stride in progress is made for, if it is in a given state. -/
def State.strideSlot (s : State) (st : SlotState) : Option (Stride × Slot) :=
  match s.port with
  | .stride r =>
    match s.slot r.owner with
    | some sl => if sl.state = st then some (r, sl) else none
    | none => none
  | _ => none

/-- STRIDE_COMPLETE (R92 to R100). -/
def execStrideComplete (s : State) : Host.Outcome State Fault Refusal :=
  match s.strideSlot .running with
  | some (r, sl) => if r.inStore sl then .next (s.completeStride r sl).settle else .fault .outsideStore
  | none => .next s

/-- STOPPING_STRIDE_COMPLETE (R103). -/
def execStoppingStrideComplete (s : State) : Host.Outcome State Fault Refusal :=
  match s.strideSlot .stopping with
  | some (r, sl) => if r.inStore sl then .next (s.completeStopping r sl).settle else .fault .outsideStore
  | none => .next s

end Sys2Proof.Machine
end

