-- ==== Sys2Proof/Machine/Power.lean ====
section
/-! DEFINITION. Power, the start-up clear, the RSTN pin and upsets: POWER_ON, START_UP_CLEAR_COMPLETE, RSTN_FALL,
RSTN_RISE, STORE_UPSET. -/

namespace Sys2Proof.Machine

/-- POWER_ON (R38): every field at its power-on value and the start-up clear in progress. The input lines keep their
levels; the Store is as it was until the clear completes (log 5, log 21). -/
def execPowerOn (s : State) : Host.Outcome State Fault Refusal :=
  .next { s.cleared with opened := false, port := .clear }

/-- START_UP_CLEAR_COMPLETE (R38, R190): every word is 0 and sound; with RSTN high service opens. With no clear in
progress nothing completes (log 2). -/
def execStartUpClearComplete (s : State) : Host.Outcome State Fault Refusal :=
  if s.clearing then
    let t := { s with store := [], port := .idle }
    .next (if s.rstn then t.openService.settle else t)
  else .next s

/-- RSTN_FALL (R189, R31, R39, R105): everything at its reset value but the Store, in which an access in progress leaves
some of its words written (log 6). During the start-up clear only the line falls (R38). -/
def execRstnFall (s : State) : Host.Outcome State Fault Refusal :=
  if s.rstn = false then .next s
  else if s.clearing then .next { s with rstn := false }
  else if s.accessInStore then
    .next { s.cleared with
      rstn := false
      store := s.abandonedStore (Config.abandonedExtent s.freeCount)
      freeCount := s.freeCount + 1
      port := .idle }
  else .fault .outsideStore

/-- RSTN_RISE (R190): service opens unless the start-up clear is still in progress (R38). -/
def execRstnRise (s : State) : Host.Outcome State Fault Refusal :=
  if s.rstn then .next s
  else if s.clearing then .next { s with rstn := true }
  else .next { s with rstn := true }.openService.settle

/-- STORE_UPSET (R34): a sound word becomes damaged and its contents unknown (log 7); a damaged word stays so. -/
def execStoreUpset (address : Half) (s : State) : Host.Outcome State Fault Refusal :=
  .next { s with
    store := s.store.upset address.toNat (Config.upsetContents s.freeCount)
    freeCount := s.freeCount + 1 }.settle

end Sys2Proof.Machine
end

