-- ==== Sys2Proof/Machine/Queries.lean ====
section
/-! DEFINITION. The QUERY rows, by selector code (R175, R181).

Each of these rows stands for the arrival of its frame, whole and good, on link n; Request Intake n takes it in the same
event when R147 lets it, and it waits in the Inbound Buffer otherwise (log 1). The frame's kind code is R172's. What the
request then does is said by `State.takeQuery` (Takes.lean). -/

namespace Sys2Proof.Machine

/-- QUERY with selector PART (R182). -/
def execQueryPart (n : LinkId) (h : Header) (argument : List Octet) (s : State) : Host.Outcome State Fault Refusal :=
  .next (s.deliver n (h.frame 0x53 (0 :: argument)))

/-- QUERY with selector LINK (R182). -/
def execQueryLink (n : LinkId) (h : Header) (argument : List Octet) (s : State) : Host.Outcome State Fault Refusal :=
  .next (s.deliver n (h.frame 0x53 (1 :: argument)))

/-- QUERY with selector SLOTS (R183). -/
def execQuerySlots (n : LinkId) (h : Header) (argument : List Octet) (s : State) : Host.Outcome State Fault Refusal :=
  .next (s.deliver n (h.frame 0x53 (2 :: argument)))

/-- QUERY with selector SEGMENT (R183). -/
def execQuerySegment (n : LinkId) (h : Header) (argument : List Octet) (s : State) : Host.Outcome State Fault Refusal :=
  .next (s.deliver n (h.frame 0x53 (3 :: argument)))

/-- QUERY with selector WATCHES (R144). -/
def execQueryWatches (n : LinkId) (h : Header) (argument : List Octet) (s : State) : Host.Outcome State Fault Refusal :=
  .next (s.deliver n (h.frame 0x53 (4 :: argument)))

/-- QUERY_UNKNOWN_SELECTOR (R181): refused BADARG or BADLEN. -/
def execQueryUnknownSelector (n : LinkId) (h : Header) (payload : List Octet) (s : State) : Host.Outcome State Fault Refusal :=
  .next (s.deliver n (h.frame 0x53 payload))

end Sys2Proof.Machine
end

