-- ==== Sys2Proof/Machine/ResetRequests.lean ====
section
/-! DEFINITION. The requests that reset, and frames of no request kind: LINKRESET, RESTART, UNKNOWN_KIND_FRAME.

Each of these rows stands for the arrival of its frame, whole and good, on link n; Request Intake n takes it in the same
event when R147 lets it, and it waits in the Inbound Buffer otherwise (log 1). The frame's kind code is R172's. What the
request then does is said by `State.takeLinkreset`, `State.takeRestart` and `State.takeFrame` (Takes.lean). -/

namespace Sys2Proof.Machine

/-- LINKRESET (R184, R185). -/
def execLinkreset (n : LinkId) (h : Header) (payload : List Octet) (s : State) : Host.Outcome State Fault Refusal :=
  .next (s.deliver n (h.frame 0x54 payload))

/-- RESTART (R187, R188). -/
def execRestart (n : LinkId) (h : Header) (payload : List Octet) (s : State) : Host.Outcome State Fault Refusal :=
  .next (s.deliver n (h.frame 0x55 payload))

/-- UNKNOWN_KIND_FRAME (R171): refused BADKIND with the frame's tag. -/
def execUnknownKindFrame (n : LinkId) (kind : Octet) (h : Header) (payload : List Octet) (s : State) :
    Host.Outcome State Fault Refusal :=
  .next (s.deliver n (h.frame kind payload))

end Sys2Proof.Machine
end

