-- ==== Sys2Proof/Machine/SegmentRequests.lean ====
section
/-! DEFINITION. The segment requests: DEFINE, DROP.

Each of these rows stands for the arrival of its frame, whole and good, on link n; Request Intake n takes it in the same
event when R147 lets it, and it waits in the Inbound Buffer otherwise (log 1). The frame's kind code is R172's. What the
request then does is said by `State.takeDefine` and `State.takeDrop` (Takes.lean). -/

namespace Sys2Proof.Machine

/-- DEFINE (R44, R45, R47). -/
def execDefine (n : LinkId) (h : Header) (payload : List Octet) (s : State) : Host.Outcome State Fault Refusal :=
  .next (s.deliver n (h.frame 0x50 payload))

/-- DROP (R46, R45, R47). -/
def execDrop (n : LinkId) (h : Header) (payload : List Octet) (s : State) : Host.Outcome State Fault Refusal :=
  .next (s.deliver n (h.frame 0x51 payload))

end Sys2Proof.Machine
end

