-- ==== Sys2Proof/Machine/Timers.lean ====
section
/-! DEFINITION. The Timebase: its 1 µs ticks, BUDGET_EXPIRY and HOLD_EXPIRY, and what a step on an empty queue does
(R13, R14, R20, R21; log 9, log 10). -/

namespace Sys2Proof.Machine

/-! ### Expiries -/

/-- A budget timer expires, and what follows. -/
def State.budgetExpiry (s : State) (i : SlotId) : State :=
  match s.slot i with
  | none => s
  | some sl => if sl.budgetTimer.isSome then (s.budgetExpires i sl).settle else s

/-- A hold timer expires, and what follows. -/
def State.holdExpiry (s : State) (i : SlotId) : State :=
  match s.slot i with
  | none => s
  | some sl => if sl.holdTimer.isSome then (s.holdExpires i sl).settle else s

/-! ### Ticks -/

/-- Ticks of a slot's timers (R13, R20). -/
def Slot.ticks (sl : Slot) (k : Nat) : Slot :=
  { sl with budgetTimer := sl.budgetTimer.map fun t => t - k, holdTimer := sl.holdTimer.map fun t => t - k }

/-- OFRn after a tick, which is 20 periods of OCKn (R161): a line that fell at the end of a frame has been low long enough,
and has risen again if a frame is in transmission (log 28). -/
def OutLine.tick (o : OutLine) (t : Transmitter) : OutLine :=
  if o = .gap then (if t = .free then .low else .high) else o

/-- One or more ticks on a link: of every timer, and on the line OFRn. -/
def Link.ticks (l : Link) (k : Nat) : Link :=
  { l with
    slots := Vector.ofFn fun i => (l.slot i).map fun sl => sl.ticks k
    outLine := l.outLine.tick l.transmitter }

/-- One or more ticks of the Timebase. -/
def State.ticks (s : State) (k : Nat) : State := s.mapLinks fun _ l => l.ticks k

/-- One tick of the Timebase. -/
def State.tick (s : State) : State := s.ticks 1

/-! ### The Timebase at work -/

/-- A slot with a timer that has run out. -/
def Slot.due (sl : Slot) : Bool := decide (sl.budgetTimer = some 0) || decide (sl.holdTimer = some 0)

/-- The slots with a timer that has run out. -/
def State.dueSlots (s : State) : List (SlotId × Slot) := s.busySlots.filter fun p => p.2.due

/-- The expiry of a slot's timer that has run out. -/
def State.expire (s : State) (i : SlotId) (sl : Slot) : State :=
  if sl.budgetTimer = some 0 then s.budgetExpiry i else s.holdExpiry i

/-- A frame waits that a Request Intake may take in the next event (R166). -/
def State.frameWaits (s : State) : Bool := linkIds.any fun n => s.intakeWaits n

/-- The part with no command waiting: a frame that may be taken is taken; else a timer that has run out expires, the choice
among several being free (log 10); else a tick passes. -/
def State.timebase (s : State) : State :=
  if s.frameWaits then s.settle
  else match s.dueSlots[Config.dueChoice s.freeCount % s.dueSlots.length]? with
    | some (i, sl) => { s with freeCount := s.freeCount + 1 }.expire i sl
    | none => s.tick

/-! ### BUDGET_EXPIRY and HOLD_EXPIRY -/

/-- The ticks left on every timer that runs. -/
def State.timersLeft (s : State) : List Nat :=
  s.busySlots.flatMap fun p => p.2.budgetTimer.toList ++ p.2.holdTimer.toList

/-- The part at work (`State.timebase`) until a timer of slot i has run out or is gone, so that whatever runs out before it
expires before it, at its own tick (R13, R20). Ticks in which nothing else happens pass together. `fuel` bounds what
happens. -/
def State.passUntil (timer : Slot → Option Nat) (i : SlotId) : Nat → State → State
  | 0, s => s
  | fuel + 1, s =>
    match (s.slot i).bind timer with
    | none | some 0 => s
    | some t =>
      if s.frameWaits || !s.dueSlots.isEmpty then State.passUntil timer i fuel s.timebase
      else State.passUntil timer i fuel (s.ticks (s.timersLeft.foldl min t))

/-- What can happen at most before a timer runs out: each of the 64 timers of the slots, and one more for each of the 8
frames that wait in Inbound Buffers, is run down to and expires, and each of those frames is taken. -/
def passFuel : Nat := 2 * (64 + 8) + 8

/-- BUDGET_EXPIRY (R14): the ticks that the budget timer of slot k of link n has left pass (R13; log 9), and it expires.
Without a timer there is no expiry (log 2). -/
def execBudgetExpiry (n : LinkId) (k : SlotIdx) (s : State) : Host.Outcome State Fault Refusal :=
  .next ((s.passUntil (fun sl => sl.budgetTimer) ⟨n, k⟩ passFuel).budgetExpiry ⟨n, k⟩)

/-- HOLD_EXPIRY (R21): the ticks that the hold timer of slot k of link n has left pass (R20; log 9), and it expires. Without a
timer there is no expiry (log 2). -/
def execHoldExpiry (n : LinkId) (k : SlotIdx) (s : State) : Host.Outcome State Fault Refusal :=
  .next ((s.passUntil (fun sl => sl.holdTimer) ⟨n, k⟩ passFuel).holdExpiry ⟨n, k⟩)

end Sys2Proof.Machine
end

