-- ==== Sys2Proof/Machine/WatchRequests.lean ====
section
/-! DEFINITION. The watch requests: WATCH, REARM, UNWATCH.

Each of these rows stands for the arrival of its frame, whole and good, on link n; Request Intake n takes it in the same
event when R147 lets it, and it waits in the Inbound Buffer otherwise (log 1). The frame's kind code is R172's. What the
request then does is said by `State.takeWatch`, `State.takeRearm` and `State.takeUnwatch` (Takes.lean). -/

namespace Sys2Proof.Machine

/-- WATCH (R130). -/
def execWatch (n : LinkId) (h : Header) (payload : List Octet) (s : State) : Host.Outcome State Fault Refusal :=
  .next (s.deliver n (h.frame 0x40 payload))

/-- REARM (R137). -/
def execRearm (n : LinkId) (h : Header) (payload : List Octet) (s : State) : Host.Outcome State Fault Refusal :=
  .next (s.deliver n (h.frame 0x41 payload))

/-- UNWATCH (R138). -/
def execUnwatch (n : LinkId) (h : Header) (payload : List Octet) (s : State) : Host.Outcome State Fault Refusal :=
  .next (s.deliver n (h.frame 0x42 payload))

end Sys2Proof.Machine
end

