-- ==== Sys2Proof/Machine/Dispatch.lean ====
section
/-! DEFINITION. One arm for each command. -/

namespace Sys2Proof.Machine

def exec (i : Instr) (s : State) : Host.Outcome State Fault Refusal :=
  match i with
  | .powerOn => Sys2Proof.Machine.execPowerOn s
  | .startUpClearComplete => Sys2Proof.Machine.execStartUpClearComplete s
  | .rstnFall => Sys2Proof.Machine.execRstnFall s
  | .rstnRise => Sys2Proof.Machine.execRstnRise s
  | .storeUpset address => Sys2Proof.Machine.execStoreUpset address s
  | .frameBegin n => Sys2Proof.Machine.execFrameBegin n s
  | .frameEnd n bits => Sys2Proof.Machine.execFrameEnd n bits s
  | .hhldRise n => Sys2Proof.Machine.execHhldRise n s
  | .hhldFall n => Sys2Proof.Machine.execHhldFall n s
  | .transmissionComplete n => Sys2Proof.Machine.execTransmissionComplete n s
  | .budgetExpiry n k => Sys2Proof.Machine.execBudgetExpiry n k s
  | .holdExpiry n k => Sys2Proof.Machine.execHoldExpiry n k s
  | .directAccessComplete => Sys2Proof.Machine.execDirectAccessComplete s
  | .strideComplete => Sys2Proof.Machine.execStrideComplete s
  | .stoppingStrideComplete => Sys2Proof.Machine.execStoppingStrideComplete s
  | .read n h payload => Sys2Proof.Machine.execRead n h payload s
  | .write n h payload => Sys2Proof.Machine.execWrite n h payload s
  | .postedWrite n h payload => Sys2Proof.Machine.execPostedWrite n h payload s
  | .exchange n h payload => Sys2Proof.Machine.execExchange n h payload s
  | .copy n h payload => Sys2Proof.Machine.execCopy n h payload s
  | .find n h payload => Sys2Proof.Machine.execFind n h payload s
  | .fold n h payload => Sys2Proof.Machine.execFold n h payload s
  | .apply n h payload => Sys2Proof.Machine.execApply n h payload s
  | .map n h payload => Sys2Proof.Machine.execMap n h payload s
  | .claim n h payload => Sys2Proof.Machine.execClaim n h payload s
  | .cancel n h payload => Sys2Proof.Machine.execCancel n h payload s
  | .watch n h payload => Sys2Proof.Machine.execWatch n h payload s
  | .rearm n h payload => Sys2Proof.Machine.execRearm n h payload s
  | .unwatch n h payload => Sys2Proof.Machine.execUnwatch n h payload s
  | .define n h payload => Sys2Proof.Machine.execDefine n h payload s
  | .drop n h payload => Sys2Proof.Machine.execDrop n h payload s
  | .linksetBudget n h target value => Sys2Proof.Machine.execLinksetBudget n h target value s
  | .linksetHold n h target value => Sys2Proof.Machine.execLinksetHold n h target value s
  | .linksetNotify n h target value => Sys2Proof.Machine.execLinksetNotify n h target value s
  | .linksetPriority n h target value => Sys2Proof.Machine.execLinksetPriority n h target value s
  | .linksetAdmin n h target value => Sys2Proof.Machine.execLinksetAdmin n h target value s
  | .queryPart n h argument => Sys2Proof.Machine.execQueryPart n h argument s
  | .queryLink n h argument => Sys2Proof.Machine.execQueryLink n h argument s
  | .querySlots n h argument => Sys2Proof.Machine.execQuerySlots n h argument s
  | .querySegment n h argument => Sys2Proof.Machine.execQuerySegment n h argument s
  | .queryWatches n h argument => Sys2Proof.Machine.execQueryWatches n h argument s
  | .linkreset n h payload => Sys2Proof.Machine.execLinkreset n h payload s
  | .restart n h payload => Sys2Proof.Machine.execRestart n h payload s
  | .unknownKindFrame n kind h payload => Sys2Proof.Machine.execUnknownKindFrame n kind h payload s
  | .ifrSeenLow n => Sys2Proof.Machine.execIfrSeenLow n s
  | .linksetUnknownParameter n h payload => Sys2Proof.Machine.execLinksetUnknownParameter n h payload s
  | .queryUnknownSelector n h payload => Sys2Proof.Machine.execQueryUnknownSelector n h payload s

end Sys2Proof.Machine
end

