-- ==== Sys2Proof/Machine/Step.lean ====
section
/-! DEFINITION. One step: the command at the front of the queue, or what the part does on its own: a frame that waits is taken, a
timer that has run out expires, or a tick of the Timebase passes (log 9, log 23). -/

namespace Sys2Proof.Machine

/-- The state with its front command taken off the queue. -/
def State.withPending (s : State) (rest : List Instr) : State := { s with pending := rest }

/-- One step: run the command at the front of the queue on the state with the queue's rest; with no command waiting,
the part acts on its own (log 9). -/
def step (s : State) : Host.Outcome State Fault Refusal :=
  match s.pending with
  | c :: rest => exec c (s.withPending rest)
  | [] => .next s.timebase

/-- The state with the command that a word spells put at the front of the queue; no word spells one (log 25). -/
def State.withFetchWord (s : State) (nbits w : Nat) : State :=
  match decodeTableWord nbits w with
  | some c => s.withPending (c :: s.pending)
  | none => s

end Sys2Proof.Machine
end

