-- ==== Sys2Proof/Safety.lean ====
section
/-! DEFINITION. What claims about the part are stated in: when a request is served at once, the state between two
events, and the invariants of the part. -/

namespace Sys2Proof.Machine

/-! ### Between two events -/

/-- The engine has nothing to dispatch (R85). -/
def State.engineQuiet (s : State) : Bool := s.engineBusy || s.firstEligible.isNone

/-- The port has nothing to start (R62). -/
def State.portQuiet (s : State) : Bool :=
  decide (s.port ≠ .idle) || (s.stride.isNone && s.directCandidates.isEmpty)

/-- No reset in progress can complete (R185, R188). -/
def State.resetsQuiet (s : State) : Bool :=
  if s.restartInProgress.isSome then s.stopping
  else linkIds.all fun t => !(s.link t).isResetting || s.stoppingOn t

/-- The Outbound Arbiter has nothing to start (R155). -/
def Link.arbiterQuiet (l : Link) : Bool :=
  decide (l.transmitter ≠ .free) || l.hostHold || (l.replies.isEmpty && l.notices.isEmpty)

/-- Nothing more can happen without an event: no reset can complete, nothing can be dispatched, the port has nothing to start,
no frame that may be taken waits, and no arbiter has a frame to start. -/
def State.settled (s : State) : Bool :=
  s.resetsQuiet && s.engineQuiet && s.portQuiet && !s.frameWaits && linkIds.all fun n => (s.link n).arbiterQuiet

/-- No frame waits in an Inbound Buffer. -/
def State.inboxesEmpty (s : State) : Bool := linkIds.all fun n => (s.link n).inbox.isEmpty

/-- Nothing is left over from earlier events: no reset can complete, nothing can be dispatched, the port has nothing to
start, and no frame waits to be taken. -/
def State.calm (s : State) : Bool :=
  s.resetsQuiet && s.engineQuiet && s.portQuiet && s.inboxesEmpty

/-- Link n's next request frame is taken in the event of its arrival: the receiver is IDLE, Request Intake n may take
(R147), and nothing is left over from earlier events. -/
def State.serves (s : State) (n : LinkId) : Bool :=
  decide ((s.link n).receiver = .idle) && s.intakeAble n && s.calm

/-! ### Requests as hosts may send them -/

/-- An offset travels in 16 bits. -/
def Ref.sendable (r : Ref) (low high : Nat) : Bool :=
  decide (r.offset < 65536) && decide (low ≤ r.count) && decide (r.count ≤ high)

/-- A data request that R8 and R173 to R175 give a frame: counts in range, POST and data words for a WRITE alone. -/
def DataRequest.sendable (r : DataRequest) : Bool :=
  match r.job with
  | .write a => a.sendable 1 64 && decide (a.count = r.data.length)
  | .read a => a.sendable 1 64 && !r.posted && r.data.isEmpty
  | .exchange a _ _ _ => a.sendable 1 1 && !r.posted && r.data.isEmpty
  | .copy a b => a.sendable 1 65536 && b.sendable 1 65536 && decide (a.count = b.count) && !r.posted && r.data.isEmpty
  | .find a _ _ _ | .fold a _ _ | .apply a _ _ => a.sendable 1 65536 && !r.posted && r.data.isEmpty
  | .map a t _ => a.sendable 1 65536 && t.sendable 256 256 && !r.posted && r.data.isEmpty

/-- A request that has a frame which is not refused BADLEN or BADARG by its fields (R8, R44, R130, R179, R181). -/
def Request.sendable : Request → Bool
  | .data r => r.sendable
  | .watch _ off c _ _ => decide (off < 65536) && decide (1 ≤ c) && decide (c ≤ 65536)
  | .define _ base len _ => decide (base < 65536) && decide (1 ≤ len) && decide (len ≤ 65536)
  | .linkset t p => !(decide (t = 0) && decide (p = .admin false))
  | _ => true

/-- The header a host sends a request with (R170). -/
def Request.header (r : Request) (tag : Tag) : Header := (r.frame tag).header

/-- The row of a data request, with the frame a host sends for it (R172). -/
def DataRequest.command (n : LinkId) (tag : Tag) (r : DataRequest) : Instr :=
  match r.job with
  | .read _ => .read n ((Request.data r).header tag) r.payload
  | .write _ =>
    if r.posted then .postedWrite n ((Request.data r).header tag) r.payload
    else .write n ((Request.data r).header tag) r.payload
  | .exchange .. => .exchange n ((Request.data r).header tag) r.payload
  | .copy .. => .copy n ((Request.data r).header tag) r.payload
  | .find .. => .find n ((Request.data r).header tag) r.payload
  | .fold .. => .fold n ((Request.data r).header tag) r.payload
  | .apply .. => .apply n ((Request.data r).header tag) r.payload
  | .map .. => .map n ((Request.data r).header tag) r.payload

/-- The row of a LINKSET, with the frame a host sends for it (R175). -/
def Parameter.command (n : LinkId) (tag : Tag) (target : LinkId) (p : Parameter) : Instr :=
  let h := (Request.linkset target p).header tag
  match p with
  | .budget v => .linksetBudget n h (octet target.val) (halfOctets v)
  | .hold v => .linksetHold n h (octet target.val) (halfOctets v)
  | .notify on => .linksetNotify n h (octet target.val) [0, switchCode on]
  | .priority v => .linksetPriority n h (octet target.val) [0, octet v.val]
  | .admin yes => .linksetAdmin n h (octet target.val) [0, switchCode yes]

/-- The row of a QUERY, with the frame a host sends for it (R175). -/
def Selector.command (n : LinkId) (tag : Tag) (q : Selector) : Instr :=
  let h := (Request.query q).header tag
  match q with
  | .part => .queryPart n h [0]
  | .link m => .queryLink n h [octet m.val]
  | .slots => .querySlots n h [0]
  | .segment id => .querySegment n h [octet id.val]
  | .watches => .queryWatches n h [0]

/-- The payload lengths that the request kinds allow, by kind code (R172 to R175). -/
def lengthAllowed (kind : Octet) (len : Nat) : Prop :=
  (kind = 0x10 ∧ len = 4) ∨ (kind = 0x11 ∧ 7 ≤ len ∧ len ≤ 259 ∧ len % 4 = 3) ∨ (kind = 0x12 ∧ len = 15) ∨
  (kind = 0x20 ∧ len = 8) ∨ (kind = 0x21 ∧ len = 14) ∨ (kind = 0x22 ∧ len = 10) ∨ (kind = 0x23 ∧ len = 10) ∨
  (kind = 0x24 ∧ len = 9) ∨ (kind = 0x30 ∧ len = 0) ∨ (kind = 0x31 ∧ len = 0) ∨ (kind = 0x40 ∧ len = 7) ∨
  (kind = 0x41 ∧ len = 1) ∨ (kind = 0x42 ∧ len = 1) ∨ (kind = 0x50 ∧ len = 9) ∨ (kind = 0x51 ∧ len = 1) ∨
  (kind = 0x52 ∧ len = 4) ∨ (kind = 0x53 ∧ len = 2) ∨ (kind = 0x54 ∧ len = 1) ∨ (kind = 0x55 ∧ len = 0)

/-! ### Invariants -/

/-- A slot's record fits its state and phase (R5, R6, R2, R13, R20, R26): HELD slots and they alone have an outcome and may
have a hold timer, and are DEFERRED; a reservation is owned exactly in phase UNANSWERED outside STOPPING, and a
budget timer runs only there; direct requests WAIT, block operations do not; SILENT is a WRITE that waits. -/
def Slot.consistent (sl : Slot) : Bool :=
  decide (sl.outcome.isSome = decide (sl.state = .held))
    && (!sl.holdTimer.isSome || decide (sl.state = .held))
    && (!decide (sl.state = .held) || decide (sl.phase = .deferred))
    && decide (sl.reserved = (decide (sl.phase = .unanswered) && decide (sl.state ≠ .stopping)))
    && (!sl.budgetTimer.isSome || sl.reserved)
    && (!decide (sl.state = .waiting) || !sl.job.isBlock)
    && (decide (sl.state = .waiting) || decide (sl.state = .held) || sl.job.isBlock)
    && (!decide (sl.phase = .silent) || (decide (sl.state = .waiting) && decide (sl.job.kind = .write)))
    && (!sl.cancelMark || decide (sl.state = .running) || decide (sl.state = .stopping) || decide (sl.state = .held))

/-- Every slot's record fits its state and phase. -/
def State.slotsConsistent (s : State) : Bool := s.busySlots.all fun p => p.2.consistent

/-- The bounds of a link's queues and counters (R145, R151, R156, R162, R166, R178). -/
def Link.bounded (l : Link) : Bool :=
  decide (l.inbox.length ≤ 2) && (!decide (l.receiver = .assembling) || decide (l.inbox.length < 2))
    && decide (l.notices.length ≤ 16) && decide (l.badFrames ≤ 65535) && decide (l.lost ≤ 65535)
    && decide (l.dropped ≤ 65535) && decide (l.streak ≤ 4)

/-- The bounds of queues and counters, the part's own included (R36, R129). -/
def State.bounded (s : State) : Bool :=
  (linkIds.all fun n => (s.link n).bounded) && decide (s.faults ≤ 65535)
    && watchIds.all fun id => (s.watch id).all fun w => decide (w.missed ≤ 255) && (w.fired || decide (w.missed = 0))

/-- A slot the engine works for: RUNNING or STOPPING (R82). -/
def SlotState.inEngine : SlotState → Bool
  | .running | .stopping => true
  | .waiting | .queued | .suspended | .held => false

/-- The stride asked for and not started is made for slot i. -/
def State.strideAsked (s : State) (i : SlotId) : Bool := s.stride.any fun r => decide (r.owner = i)

/-- The engine and the port agree with the slots (R82, R90, R66): one slot at most is RUNNING or STOPPING; a RUNNING slot
has one stride outstanding, asked for or in progress, a STOPPING slot one in progress, and no stride is outstanding for
another slot; a direct access in progress that a slot waits for is that slot's own, and the slot is WAITING. -/
def State.engineConsistent (s : State) : Bool :=
  decide ((s.busySlots.filter fun p => p.2.state.inEngine).length ≤ 1)
    && (s.busySlots.all fun p =>
      match p.2.state with
      | .running => s.strideAsked p.1 != s.strideInProgress p.1
      | .stopping => s.strideInProgress p.1 && !s.strideAsked p.1
      | _ => !s.strideInProgress p.1 && !s.strideAsked p.1)
    && (s.stride.all fun r => (s.slot r.owner).isSome)
    && (match s.port with
      | .stride r => (s.slot r.owner).isSome
      | .direct a => !a.live || (s.slot a.owner).any fun sl => decide (sl.state = .waiting) && decide (sl.job = a.job)
      | _ => true)

/-- No two claims that different slots hold conflict (R54). -/
def State.claimsCompatible (s : State) : Bool := s.busySlots.all fun p => s.clearOfClaims p.1 p.2.claims

/-- The request whose RESTART a link's reset belongs to. -/
def Link.restartBy (l : Link) : Option LinkId :=
  match l.status with
  | .resetting (.restart n) => some n
  | _ => none

/-- Resets in progress (R30, R180, R187): a RESETTING link has no slot but a STOPPING one; a RESTART resets every link. -/
def State.resetsConsistent (s : State) : Bool :=
  (linkIds.all fun n => !(s.link n).isResetting || (s.busyOn n).all fun p => decide (p.2.state = .stopping))
    && (match s.restartInProgress with
      | some r => linkIds.all fun n => decide ((s.link n).restartBy = some r)
      | none => true)

/-- Reply Lists (R145, R146, R147, R158): occupied and reserved places never exceed 12; an AWAITING link keeps a place free;
a RESETTING link's list holds no frame but the one in transmission. -/
def State.listsConsistent (s : State) : Bool :=
  linkIds.all fun n =>
    let l := s.link n
    decide (l.replies.length + l.reservedPlaces ≤ 12)
      && (match l.status with
        | .awaiting _ => decide (l.replies.length + l.reservedPlaces ≤ 11)
        | .resetting _ => decide (l.replies.length ≤ 1)
        | _ => true)

/-- OFRn is high only in a transmission, and is not at rest in one (R160, R168; the three levels are log 28). -/
def State.linesConsistent (s : State) : Bool :=
  linkIds.all fun n =>
    match (s.link n).outLine with
    | .low => decide ((s.link n).transmitter = .free)
    | .gap => true
    | .high => decide ((s.link n).transmitter ≠ .free)

/-- Slots, engine, port, resets, Reply Lists and lines agree with one another. -/
def State.consistent (s : State) : Bool :=
  s.slotsConsistent && s.engineConsistent && s.resetsConsistent && s.listsConsistent && s.linesConsistent

/-- Tags are not shared by the slots of a link (R3); admission numbers are not shared by the slots of the part, and lie below
the admission count (R4). -/
def State.numbersDistinct (s : State) : Bool :=
  (s.busySlots.all fun p => decide (p.2.admission < s.admissions))
    && decide (s.busySlots.Pairwise fun p q =>
      p.2.admission ≠ q.2.admission ∧ (p.1.link = q.1.link → p.2.tag ≠ q.2.tag))

end Sys2Proof.Machine
end

