-- ==== Sys2Proof/Certificates/Slice0/Obligations.lean ====
section
/-! DEFINITION. The statements for the provers. Each docstring names the rules a statement formalises, or the log entry whose
choice it states. `settle` is what follows in an event from what the event did (log 11); `arbitrate` is the Outbound
Arbiters' choice that ends it, stated by `OutboundArbiterChooses`. `State.serves n` says that link n's next frame is taken in
the event of its arrival. -/

open Sys2Proof Sys2Proof.Machine

/-! ### Steps and the Timebase -/

/-- A step runs the command at the front of the queue on the state with the queue's rest (the row's own rule, log 23). -/
def Obligations.StepRunsTheFrontCommand : Prop :=
  ∀ (c : Instr) (rest : List Instr) (s : State), s.pending = c :: rest → step s = exec c (s.withPending rest)

/-- With no command waiting: a frame that may be taken is taken; else a timer that has run out expires, one of those that have;
else a step is a tick. k ticks take k from every timer of every slot, let a line OFRn that has fallen rise again or come to
rest, and change nothing else (R13, R20, R166; that these are the steps on an empty queue is log 9, the free choice among
several expiries log 10, the lines log 28). -/
def Obligations.TimebaseTicksAndExpires : Prop :=
  (∀ s : State, s.pending = [] → s.frameWaits = false → s.dueSlots = [] → step s = .next s.tick) ∧
  (∀ (s : State) (k : Nat),
    (∀ i : SlotId, (State.tick^[k] s).slot i = (s.slot i).map fun sl =>
      { sl with budgetTimer := sl.budgetTimer.map fun t => t - k, holdTimer := sl.holdTimer.map fun t => t - k }) ∧
    (∀ n : LinkId, (State.tick^[k] s).link n = { s.link n with
      slots := ((State.tick^[k] s).link n).slots
      outLine :=
        if k = 0 ∨ (s.link n).outLine ≠ .gap then (s.link n).outLine
        else if (s.link n).transmitter = .free then .low else .high }) ∧
    State.tick^[k] s = { s with links := (State.tick^[k] s).links }) ∧
  (∀ s : State, s.pending = [] → s.frameWaits = false → s.dueSlots ≠ [] →
    ∃ (i : SlotId) (sl : Slot), s.slot i = some sl ∧
      (sl.budgetTimer = some 0 ∨ sl.budgetTimer ≠ some 0 ∧ sl.holdTimer = some 0) ∧
      step s = exec (if sl.budgetTimer = some 0 then .budgetExpiry i.link i.idx else .holdExpiry i.link i.idx)
        { s with freeCount := s.freeCount + 1 }) ∧
  ∀ s : State, s.pending = [] → s.frameWaits = true → step s = .next s.settle

/-! ### Frames -/

/-- R165: the register starts at FFFFh and takes each octet most significant bit first: it shifts left, and takes 1021h in when
the bit that leaves it is not the bit that enters. The CRC of the octets 31h to 39h is 29B1h, and the computation over octets
and their CRC, more significant octet first, leaves the register at 0. -/
def Obligations.CrcOverWholeFrameIsZero : Prop :=
  crc [0x31, 0x32, 0x33, 0x34, 0x35, 0x36, 0x37, 0x38, 0x39] = 0x29B1 ∧
  (∀ os : List Octet, crc os = (os.flatMap fun o => (List.range 8).map fun i => o.getLsbD (7 - i)).foldl
    (fun (r : Half) b => if r.getLsbD 15 = b then r <<< 1 else (r <<< 1) ^^^ 0x1021) 0xFFFF) ∧
  ∀ os : List Octet, crc (os ++ [(crc os).extractLsb' 8 8, (crc os).extractLsb' 0 8]) = 0

/-- A frame of up to 260 payload octets, sent bit by bit with its CRC, is received as it was sent; a longer one is LONG. What
is sent is the kind code, the flags, the tag, the length, its more significant octet first, the payload and the CRC, each octet
most significant bit first (R160, R163, R165, R170). -/
def Obligations.SentFrameIsReceived : Prop :=
  ∀ f : Frame,
    receiveBits (requestBits f) = (if f.payload.length ≤ 260 then .ok f else .error .long) ∧
    requestBits f =
      (withCrc ([f.kind, f.flags, f.tag, f.length.extractLsb' 8 8, f.length.extractLsb' 0 8] ++ f.payload)).flatMap fun o =>
        (List.range 8).map fun i => o.getLsbD (7 - i)

/-- Bits that end a frame are checked SHORT, then LONG, then CHECK, and a frame that passes keeps its octets except the two
CRC octets (R163); every eight bits make an octet, the first the most significant (R160). -/
def Obligations.ReceiverChecks : Prop :=
  (∀ os : List Octet, octetsOf (os.flatMap fun o => (List.range 8).map fun i => o.getLsbD (7 - i)) = os) ∧
  ∀ bits : List Bool,
    (bits.length % 8 ≠ 0 ∨ bits.length < 56 → receiveBits bits = .error .short) ∧
    (bits.length % 8 = 0 → 2136 < bits.length → receiveBits bits = .error .long) ∧
    (bits.length % 8 = 0 → 56 ≤ bits.length → bits.length ≤ 2136 → crc (octetsOf bits) ≠ 0 →
      receiveBits bits = .error .check) ∧
    (bits.length % 8 = 0 → 56 ≤ bits.length → bits.length ≤ 2136 → crc (octetsOf bits) = 0 →
      ∃ f, receiveBits bits = .ok f ∧ requestBits f = bits)

/-- Every request that can be sent is decoded from its frame as it was encoded, and a frame that is decoded is the frame of the
request read. The frame of each request kind: kind code, flags, tag, payload length, and the payload's fields in order, with the
codes of the tests, functions and modes, of a watch's mode and self, of the rights, of the LINKSET parameters and of the QUERY
selectors; a number of two octets or a word travels most significant octet first, a count of a block operation, a WATCH or a
DEFINE less 1, and POST in the least significant flag (R44, R107, R130, R170, R172 to R175). -/
def Obligations.RequestFrameDecodes : Prop :=
  (∀ (r : Request) (tag : Tag), r.sendable = true →
    parseFrame (r.frame tag) = .ok r ∧ (r.frame tag).tag = tag ∧ (r.frame tag).payload.length ≤ 260) ∧
  (∀ (f : Frame) (r : Request), parseFrame f = .ok r → r.sendable = true ∧ r.frame f.tag = f) ∧
  ∀ tag : Tag,
    let two (k : Nat) : List Octet := [BitVec.ofNat 8 (k / 256), BitVec.ofNat 8 k]
    let four (w : Word) : List Octet := [w.extractLsb' 24 8, w.extractLsb' 16 8, w.extractLsb' 8 8, w.extractLsb' 0 8]
    let operand (a : Ref) : List Octet := a.segment :: two a.offset
    let range (a : Ref) : List Octet := operand a ++ two (a.count - 1)
    let framed (r : Request) (kind flags : Octet) (length : Half) (payload : List Octet) : Prop :=
      r.frame tag = { kind := kind, flags := flags, tag := tag, length := length, payload := payload }
    let data (job : Job Ref) : Request := .data { job := job, posted := false, data := [] }
    (∀ a, framed (data (.read a)) 0x10 0 4 (operand a ++ [BitVec.ofNat 8 a.count])) ∧
    (∀ a posted ws, framed (.data { job := .write a, posted := posted, data := ws }) 0x11 (if posted then 1 else 0)
      (BitVec.ofNat 16 (3 + 4 * ws.length)) (operand a ++ ws.flatMap four)) ∧
    (∀ a compare mask new, framed (data (.exchange a compare mask new)) 0x12 0 15
      (operand a ++ four compare ++ four mask ++ four new)) ∧
    (∀ a b, framed (data (.copy a b)) 0x20 0 8 (range a ++ operand b)) ∧
    (∀ p ∈ [(FindTest.eq, 0), (.ne, 1), (.lt, 2), (.gt, 3), (.anyset, 4), (.noneset, 5)], ∀ a value mask,
      framed (data (.find a p.1 value mask)) 0x21 0 14 (range a ++ [p.2] ++ four value ++ four mask)) ∧
    (∀ p ∈ [(FoldFn.sum, 0), (.xor, 1), (.or, 2), (.and, 3)], ∀ a initial,
      framed (data (.fold a p.1 initial)) 0x22 0 10 (range a ++ [p.2] ++ four initial)) ∧
    (∀ p ∈ [(ApplyFn.set, 0), (.or, 1), (.and, 2), (.xor, 3), (.add, 4)], ∀ a x,
      framed (data (.apply a p.1 x)) 0x23 0 10 (range a ++ [p.2] ++ four x)) ∧
    (∀ p ∈ [(MapMode.low, 0), (.all, 1)], ∀ a table,
      framed (data (.map a table p.1)) 0x24 0 9 (range a ++ operand table ++ [p.2])) ∧
    framed .claim 0x30 0 0 [] ∧ framed .cancel 0x31 0 0 [] ∧
    (∀ m ∈ [(WatchMode.write, 0), (.change, 1)], ∀ self ∈ [(false, 0), (true, 1)], ∀ seg offset count,
      framed (.watch seg offset count m.1 self.1) 0x40 0 7
        ([BitVec.ofNat 8 seg.val] ++ two offset ++ two (count - 1) ++ [m.2, self.2])) ∧
    (∀ id : WatchId, framed (.rearm id) 0x41 0 1 [BitVec.ofNat 8 id.val] ∧ framed (.unwatch id) 0x42 0 1 [BitVec.ofNat 8 id.val]) ∧
    (∀ seg base length rights,
      let code : Right → Octet := fun right => match right with
        | .none => 0
        | .read => 1
        | .write => 2
      framed (.define seg base length rights) 0x50 0 9
        ([BitVec.ofNat 8 seg.val] ++ two base ++ two (length - 1) ++
          [code rights[0], code rights[1], code rights[2], code rights[3]])) ∧
    (∀ seg : SegmentId, framed (.drop seg) 0x51 0 1 [BitVec.ofNat 8 seg.val]) ∧
    (∀ t : LinkId,
      (∀ v : Half, framed (.linkset t (.budget v)) 0x52 0 4 [BitVec.ofNat 8 t.val, 0, v.extractLsb' 8 8, v.extractLsb' 0 8] ∧
        framed (.linkset t (.hold v)) 0x52 0 4 [BitVec.ofNat 8 t.val, 1, v.extractLsb' 8 8, v.extractLsb' 0 8]) ∧
      (∀ v : Fin 4, framed (.linkset t (.priority v)) 0x52 0 4 [BitVec.ofNat 8 t.val, 3, 0, BitVec.ofNat 8 v.val]) ∧
      ∀ p ∈ [(false, 0), (true, 1)],
        framed (.linkset t (.notify p.1)) 0x52 0 4 [BitVec.ofNat 8 t.val, 2, 0, p.2] ∧
        framed (.linkset t (.admin p.1)) 0x52 0 4 [BitVec.ofNat 8 t.val, 4, 0, p.2]) ∧
    (framed (.query .part) 0x53 0 2 [0, 0] ∧ (∀ n : LinkId, framed (.query (.link n)) 0x53 0 2 [1, BitVec.ofNat 8 n.val]) ∧
      framed (.query .slots) 0x53 0 2 [2, 0] ∧
      (∀ seg : SegmentId, framed (.query (.segment seg)) 0x53 0 2 [3, BitVec.ofNat 8 seg.val]) ∧
      framed (.query .watches) 0x53 0 2 [4, 0]) ∧
    (∀ t : LinkId, framed (.linkreset t) 0x54 0 1 [BitVec.ofNat 8 t.val]) ∧ framed .restart 0x55 0 0 []

/-- FRAME_BEGIN and FRAME_END with the bits of a frame do what the row of that frame does, when no frame is in progress
and nothing is left over from earlier events (R162, R163; the reading of a row as its frame's arrival is log 1). -/
def Obligations.FrameBeginAndEndAreTheRow : Prop :=
  ∀ (n : LinkId) (f : Frame) (s : State), (s.link n).receiver = .idle → s.settled = true →
    ∃ t, exec (.frameBegin n) s = .next t ∧
      exec (.frameEnd n (requestBits f)) t = exec (Instr.ofFrame n f) s

/-- The arrival of a row's frame, in any state: a receiver that has not opened ignores it, one that has becomes IDLE; a full
Inbound Buffer or a frame being skipped makes it a bad frame OVERRUN; else a frame of up to 260 payload octets joins the
Inbound Buffer and a longer one is a bad frame LONG (R162, R163, R166; log 1). -/
def Obligations.FrameArrives : Prop :=
  ∀ (i : Instr) (n : LinkId) (f : Frame) (s : State), i.frame = some (n, f) →
    exec i s = .next
      (if (s.link n).receiver = .closed ∧ (s.link n).status = .closed then s
       else if (s.link n).receiver = .skipping ∨ (s.link n).receiver ≠ .assembling ∧ 2 ≤ (s.link n).inbox.length then
         s.updLink n fun l => { l with receiver := .idle }.discardFrame .overrun
       else if f.payload.length ≤ 260 then
         s.updLink n fun l => { l with receiver := .idle, inbox := l.inbox ++ [f] }
       else s.updLink n fun l => { l with receiver := .idle }.discardFrame .long).settle

/-- FRAME_END: a frame being assembled joins the Inbound Buffer or is a bad frame with the reason found; one being skipped is
a bad frame OVERRUN; a CLOSED receiver that has opened becomes IDLE at the edge that ends the frame (R160, R162, R163). A bad
frame raises the bad-frame count, holding at 65,535, and queues BADFRAME with the reason and the new count: discarded on a
RESETTING link, lost and counted at a full queue (R164, R151, R152). With no frame in progress the event changes no link and
lets what can happen in an event happen (log 2). -/
def Obligations.FrameEnds : Prop :=
  ∀ (n : LinkId) (bits : List Bool) (s : State),
    let bad (why : BadFrame) (l : Link) : Link :=
      if l.isResetting = true then { l with receiver := .idle, badFrames := min (l.badFrames + 1) 65535 }
      else if 16 ≤ l.notices.length then
        { l with receiver := .idle, badFrames := min (l.badFrames + 1) 65535, lost := min (l.lost + 1) 65535 }
      else
        { l with
          receiver := .idle
          badFrames := min (l.badFrames + 1) 65535
          notices := l.notices ++ [.badframe why (min (l.badFrames + 1) 65535)] }
    (∀ f, (s.link n).receiver = .assembling → receiveBits bits = .ok f →
      exec (.frameEnd n bits) s =
        .next (s.updLink n fun l => { l with receiver := .idle, inbox := l.inbox ++ [f] }).settle) ∧
    (∀ why, (s.link n).receiver = .assembling → receiveBits bits = .error why →
      exec (.frameEnd n bits) s = .next (s.updLink n (bad why)).settle) ∧
    ((s.link n).receiver = .skipping → exec (.frameEnd n bits) s = .next (s.updLink n (bad .overrun)).settle) ∧
    ((s.link n).receiver = .closed → (s.link n).status ≠ .closed →
      exec (.frameEnd n bits) s = .next (s.updLink n fun l => { l with receiver := .idle }).settle) ∧
    ((s.link n).receiver = .idle ∨ (s.link n).receiver = .closed ∧ (s.link n).status = .closed →
      exec (.frameEnd n bits) s = .next s.settle)

/-- FRAME_BEGIN, IFR_SEEN_LOW, HHLD_RISE and HHLD_FALL change the receiver's state, or the line's level, of their link, and
what follows in any event follows (R162, R166, R169); FRAME_BEGIN at a receiver that is not IDLE, and IFR_SEEN_LOW at one that
is not a CLOSED one that has opened, change no link (log 2). PHLDn is asserted while the Inbound Buffer holds 2 frames, RSTN is
low or the start-up clear is in progress, and not otherwise (R167). -/
def Obligations.LineEvents : Prop :=
  ∀ (n : LinkId) (s : State),
    ((s.link n).receiver = .idle →
      exec (.frameBegin n) s = .next (s.updLink n fun l =>
        { l with receiver := if l.inbox.length < 2 then .assembling else .skipping }).settle) ∧
    ((s.link n).receiver ≠ .idle → exec (.frameBegin n) s = .next s.settle) ∧
    ((s.link n).receiver = .closed → (s.link n).status ≠ .closed →
      exec (.ifrSeenLow n) s = .next (s.updLink n fun l => { l with receiver := .idle }).settle) ∧
    ((s.link n).receiver ≠ .closed ∨ (s.link n).status = .closed → exec (.ifrSeenLow n) s = .next s.settle) ∧
    exec (.hhldRise n) s = .next (s.updLink n fun l => { l with hostHold := true }).settle ∧
    exec (.hhldFall n) s = .next (s.updLink n fun l => { l with hostHold := false }).settle ∧
    (s.partHold n = true ↔ 2 ≤ (s.link n).inbox.length ∨ s.rstn = false ∨ s.port = .clear)

/-- TRANSMISSION_COMPLETE: OFRn falls, the frame leaves its list and the transmitter is free; when a notice's place frees and
notices were lost, OVERFLOW with their count takes it and the count becomes 0 (R153, R155, R168). At a free transmitter
nothing completes (log 2). That the line is then in the gap after a frame is log 28. -/
def Obligations.TransmissionCompletes : Prop :=
  ∀ (n : LinkId) (s : State),
    ((s.link n).transmitter = .reply →
      exec (.transmissionComplete n) s =
        .next (s.updLink n fun l => { l with transmitter := .free, outLine := .gap, replies := l.replies.tail }).settle) ∧
    ((s.link n).transmitter = .notice → (s.link n).lost = 0 →
      exec (.transmissionComplete n) s =
        .next (s.updLink n fun l => { l with transmitter := .free, outLine := .gap, notices := l.notices.tail }).settle) ∧
    ((s.link n).transmitter = .notice → (s.link n).lost ≠ 0 → (s.link n).isResetting = false →
      0 < (s.link n).notices.length → (s.link n).notices.length ≤ 16 →
      exec (.transmissionComplete n) s =
        .next (s.updLink n fun l =>
          { l with
            transmitter := .free, outLine := .gap, notices := l.notices.tail ++ [.overflow l.lost], lost := 0 }).settle) ∧
    ((s.link n).transmitter = .free → exec (.transmissionComplete n) s = .next s)

/-- R156's table: with a free transmitter, HHLDn not asserted and a frame waiting, the first case that applies, and the
consecutive-reply count after it; else nothing. OFRn rises when a frame is started, unless it has only just fallen (R161, R168;
log 28). The arbiters change no other field and no other part of the state. -/
def Obligations.OutboundArbiterChooses : Prop :=
  (∀ l : Link,
    let line : OutLine := if l.outLine = .gap then .gap else .high
    l.arbitrate =
      if l.transmitter ≠ .free ∨ l.hostHold = true then l
      else if 4 ≤ l.streak ∧ l.notices ≠ [] then { l with transmitter := .notice, outLine := line, streak := 0 }
      else if l.replies ≠ [] ∧ l.notices ≠ [] then
        { l with transmitter := .reply, outLine := line, streak := l.streak + 1 }
      else if l.replies ≠ [] then { l with transmitter := .reply, outLine := line, streak := 0 }
      else if l.notices ≠ [] then { l with transmitter := .notice, outLine := line, streak := 0 }
      else l) ∧
  ∀ s : State, (∀ n, s.arbitrate.link n = (s.link n).arbitrate) ∧ s.arbitrate = { s with links := s.arbitrate.links }

/-- The frames the part sends: the octets of every reply and notice, with the status, reason and cause codes (R170, R172, R176,
R177); and the frame in transmission, the first of its list with its CRC behind it, whose bits OFRn and ODTn carry most
significant first, one in each period of OCKn, both low after the last (R155, R160, R165, R168). -/
def Obligations.OutboundFrames : Prop :=
  (∀ p ∈ [(Status.ok, 0x00), (.notFound, 0x01), (.mismatch, 0x02), (.cancelled, 0x03), (.storeFault, 0x04), (.badKind, 0x10),
      (.badLen, 0x11), (.badArg, 0x12), (.notAdmin, 0x13), (.dupTag, 0x14), (.noSlot, 0x15), (.noSeg, 0x16), (.outside, 0x17),
      (.denied, 0x18), (.badRange, 0x19), (.inUse, 0x1A), (.noRoom, 0x1B), (.noTag, 0x1C), (.noWatch, 0x1D), (.busy, 0x1E)],
    ∀ (tag : Tag) (ws : List Word),
      (Reply.answer p.1 tag ws).octets =
        [0x70, p.2, tag, BitVec.ofNat 8 (4 * ws.length / 256), BitVec.ofNat 8 (4 * ws.length)] ++
          ws.flatMap fun w => [w.extractLsb' 24 8, w.extractLsb' 16 8, w.extractLsb' 8 8, w.extractLsb' 0 8]) ∧
  (∀ tag : Tag, (Reply.deferred tag).octets = [0x71, 0, tag, 0, 0] ∧ (Reply.pending tag).octets = [0x72, 0, tag, 0, 0]) ∧
  (∀ p ∈ [(DataKind.read, 0x10), (.write, 0x11), (.exchange, 0x12), (.copy, 0x20), (.find, 0x21), (.fold, 0x22), (.apply, 0x23),
      (.map, 0x24)],
    ∀ (tag : Tag) (st : Status),
      (Notice.ready tag p.1 st).octets = [0x80, 0, tag, 0, 2, p.2, st.code] ∧
      (Notice.dropped tag p.1).octets = [0x81, 0, tag, 0, 1, p.2]) ∧
  (∀ (w : WatchId) (n : LinkId) (seg : SegmentId) (k : Nat),
    (Notice.changed w n k).octets =
      [0x82, 0, BitVec.ofNat 8 w.val, 0, 3, BitVec.ofNat 8 n.val, BitVec.ofNat 8 (k / 256), BitVec.ofNat 8 k] ∧
    (Notice.watchgone w seg).octets = [0x83, 0, BitVec.ofNat 8 w.val, 0, 1, BitVec.ofNat 8 seg.val] ∧
    (Notice.overflow k).octets = [0x84, 0, 0, 0, 2, BitVec.ofNat 8 (k / 256), BitVec.ofNat 8 k] ∧
    (∀ p ∈ [(BadFrame.check, 0), (.short, 1), (.long, 2), (.overrun, 3)],
      (Notice.badframe p.1 k).octets = [0x85, 0, 0, 0, 3, p.2, BitVec.ofNat 8 (k / 256), BitVec.ofNat 8 k]) ∧
    ∀ p ∈ [(RestartCause.power, 0), (.pin, 1), (.restart, 2), (.linkreset, 3)],
      (Notice.restarted p.1 n).octets = [0x86, 0, 0, 0, 2, p.2, BitVec.ofNat 8 n.val]) ∧
  ∀ l : Link,
    let bits (os : List Octet) : List Bool := os.flatMap fun o => (List.range 8).map fun i => o.getLsbD (7 - i)
    (∀ os : List Octet, withCrc os = os ++ [(crc os).extractLsb' 8 8, (crc os).extractLsb' 0 8]) ∧
    (l.transmitter = .free → l.outEdges = []) ∧
    (∀ r rest, l.transmitter = .reply → l.replies = r :: rest →
      l.outEdges = (bits (withCrc r.octets)).map (fun b => (true, b)) ++ [(false, false)]) ∧
    ∀ m rest, l.transmitter = .notice → l.notices = m :: rest →
      l.outEdges = (bits (withCrc m.octets)).map (fun b => (true, b)) ++ [(false, false)]

/-- Request Intake n takes the head frame of its Inbound Buffer exactly when link n is OPEN, its Reply List has a free place, no
direct access for a slot of link n is in progress, RSTN is high and the start-up clear is not in progress: the frame leaves the
buffer, and is decoded and taken, or refused with its status, and what it sets off follows, in the same event (R147, R166,
R171; that resets, dispatch and the port's choice follow each take is log 11). One frame is taken in an event: a good frame that
ends while intake is able and the buffer holds 1 leaves the buffer holding that frame, unless the frame taken resets the link,
and PHLDn does not rise (R167; log 12). -/
def Obligations.IntakeTakesTheHeadFrame : Prop :=
  (∀ (s : State) (n : LinkId),
    let able : Prop := (s.link n).status = .opened ∧
      (s.link n).replies.length + ((List.finRange 8).countP fun k => (s.slot ⟨n, k⟩).any fun sl => sl.reserved) < 12 ∧
      (∀ a, s.port = .direct a → a.live = true → a.owner.link ≠ n) ∧ s.rstn = true ∧ s.port ≠ .clear
    ((s.link n).inbox = [] → s.intake n = s) ∧
    ∀ f rest, (s.link n).inbox = f :: rest →
      (¬ able → s.intake n = s) ∧
      (∀ e, able → parseFrame f = .error e →
        s.intake n = ((s.updLink n fun l => { l with inbox := rest }).placeReply n (.answer e f.tag [])).react) ∧
      ∀ r, able → parseFrame f = .ok r →
        s.intake n = ((s.updLink n fun l => { l with inbox := rest }).takeRequest n f.tag r).react) ∧
  ∀ (s : State) (n : LinkId) (bits : List Bool) (f g : Frame),
    s.resetsQuiet = true → s.engineQuiet = true → s.portQuiet = true → s.intakeAble n = true →
    (∀ m, m ≠ n → (s.link m).inbox = []) → (s.link n).inbox = [g] → (s.link n).receiver = .assembling →
    receiveBits bits = .ok f →
    ∃ t, exec (.frameEnd n bits) s = .next t ∧ t.partHold n = false ∧
      (parseFrame g ≠ .ok .restart → parseFrame g ≠ .ok (.linkreset n) → (t.link n).inbox = [f])

/-! ### Power, the reset pin, the Store -/

/-- The state right after power-on: the values R1, R4, R36, R41, R63, R129, R145, R151, R156, R166, R178 and R180 give, the
start-up clear in progress (R38). POWER_ON gives every field these values and begins the clear; the input lines, the Store
until the clear completes, and the model's own fields stay (log 5, log 21); OFRn is low, with no gap owed to a frame (log 28). -/
def Obligations.ResetHoldsPowerOnValues : Prop :=
  (State.reset.port = .clear ∧ State.reset.opened = false ∧ State.reset.admissions = 0 ∧ State.reset.faults = 0 ∧
  State.reset.marker = .engine ∧ State.reset.stride = none ∧ (∀ id, State.reset.watch id = none) ∧
  State.reset.segment 0 = some { base := 0, length := 65536, rights := #v[.write, .none, .none, .none] } ∧
  (∀ id, id ≠ 0 → State.reset.segment id = none) ∧
  ∀ n : LinkId,
    (State.reset.link n).status = .closed ∧ (State.reset.link n).receiver = .closed ∧ (State.reset.link n).inbox = [] ∧
    (State.reset.link n).budget = 200 ∧ (State.reset.link n).hold = 50 ∧ (State.reset.link n).notify = true ∧
    (State.reset.link n).priority = 1 ∧ (State.reset.link n).admin = decide (n = 0) ∧
    (State.reset.link n).badFrames = 0 ∧ (State.reset.link n).lost = 0 ∧ (State.reset.link n).dropped = 0 ∧
    (∀ k, (State.reset.link n).slot k = none) ∧ (State.reset.link n).replies = [] ∧ (State.reset.link n).notices = [] ∧
    (State.reset.link n).transmitter = .free ∧ State.reset.outFrame n = false ∧ (State.reset.link n).streak = 0 ∧
    State.reset.partHold n = true) ∧
  ∀ s : State, ∃ t, exec .powerOn s = .next t ∧
    (∀ n, t.link n = { State.reset.link n with hostHold := (s.link n).hostHold }) ∧
    t = { State.reset with
      links := t.links, rstn := s.rstn, store := s.store, freeCount := s.freeCount, pending := s.pending }

/-- Service opens: every link is OPEN with RESTARTED queued, cause POWER at the first opening since power-on and PIN at any
other, resetting link 0. It opens when the start-up clear completes with RSTN high, every word then being 0 and sound and the
port free, and when RSTN rises outside the clear; with RSTN low, or during the clear, only the words, or the line, change (R38,
R190). With no clear in progress, or RSTN high already, nothing changes (log 2). -/
def Obligations.ServiceOpens : Prop :=
  ∀ s : State,
    let opening (t : State) : State :=
      { t with opened := true }.mapLinks fun _ l =>
        { l with status := .opened }.queueNotice (.restarted (if s.opened then .pin else .power) 0)
    (s.port = .clear → s.rstn = true →
      exec .startUpClearComplete s = .next (opening { s with store := [], port := .idle }).settle) ∧
    (s.port = .clear → s.rstn = false → exec .startUpClearComplete s = .next { s with store := [], port := .idle }) ∧
    (s.port ≠ .clear → exec .startUpClearComplete s = .next s) ∧
    (∀ a, Store.at [] a = { contents := 0, sound := true }) ∧
    (s.rstn = false → s.port ≠ .clear → exec .rstnRise s = .next (opening { s with rstn := true }).settle) ∧
    (s.rstn = false → s.port = .clear → exec .rstnRise s = .next { s with rstn := true }) ∧
    (s.rstn = true → exec .rstnRise s = .next s)

/-- RSTN falls: everything but the Store, the lines and the model's own fields takes its reset value, and the port is
free (R189, R31, R41, R105); during the start-up clear only the line falls (R38). An access that names an
address outside the Store is left to log 18; with RSTN low already nothing changes (log 2). OFRn goes low, with no gap owed to
the frame cut short (log 28). -/
def Obligations.RstnFalls : Prop :=
  ∀ s : State,
    (s.rstn = true → s.port ≠ .clear → s.accessInStore = true →
      ∃ t, exec .rstnFall s = .next t ∧
        (∀ n, t.link n = { State.reset.link n with hostHold := (s.link n).hostHold }) ∧
        t = { State.reset with
          links := t.links, rstn := false, opened := s.opened, port := .idle, store := t.store
          freeCount := t.freeCount, pending := s.pending } ∧
        (s.port = .idle → t.store = s.store) ∧ ∀ n, t.partHold n = true) ∧
    (s.rstn = true → s.port = .clear → exec .rstnFall s = .next { s with rstn := false }) ∧
    (s.rstn = false → exec .rstnFall s = .next s)

/-- An access in progress when RSTN falls leaves a prefix of its words written, each with its value and sound, and every other
word as it was: none to all words of a WRITE; the word of an EXCHANGE as the whole access leaves it or not; none to all but
the last position of a stride; nothing for a READ (R39, R105). -/
def Obligations.AbandonedAccessWritesAPrefix : Prop :=
  ∀ (s : State) (t : State), s.rstn = true → exec .rstnFall s = .next t → s.store.wf = true →
    (∀ a r, s.port = .direct a → a.job = .write r →
      ∃ p, p ≤ a.data.length ∧ ∀ b, t.store.at b =
        if r.first ≤ b ∧ b < r.first + p then { contents := a.data[b - r.first]?.getD 0, sound := true } else s.store.at b) ∧
    (∀ a r c m v, s.port = .direct a → a.job = .exchange r c m v →
      t.store = s.store ∨
        (s.store.at r.first).sound = true ∧ (s.store.at r.first).contents &&& m = c &&& m ∧
          ∀ b, t.store.at b = if b = r.first then { contents := v, sound := true } else s.store.at b) ∧
    (∀ a r, s.port = .direct a → a.job = .read r → t.store = s.store) ∧
    (∀ r sl, s.port = .stride r → s.slot r.owner = some sl →
      ∃ p, p ≤ r.size - 1 ∧ t.store = (sl.job.positions sl.cursor.dir p r.start s.store sl.cursor.acc).store)

/-- STORE_UPSET: a sound word becomes damaged, a damaged one stays as it is, and nothing else changes but the model's counter
of free values (R34); what follows in any event follows (R166). -/
def Obligations.UpsetDamagesOneWord : Prop :=
  ∀ (s : State) (address : Half), ∃ t : State, exec (.storeUpset address) s = .next t.settle ∧
    t = { s with store := t.store, freeCount := s.freeCount + 1 } ∧
    (t.store.at address.toNat).sound = false ∧
    ((s.store.at address.toNat).sound = false → t.store = s.store) ∧
    ∀ a, a ≠ address.toNat → t.store.at a = s.store.at a

/-! ### Timers -/

/-- BUDGET_EXPIRY: when no timer of the part has fewer ticks left than this one, and no frame waits that may be taken, the ticks
it has left pass, DEFERRED with the slot's tag is placed in its reservation, the phase becomes DEFERRED and the timer is
removed; the slot's state and the rest of its record stay (R13, R14). When others run out before it, the part does what it does
on its own, each expiry at its own tick, until this timer has run out or is gone. That the row stands for the passing of the
ticks is log 9; without a timer nothing expires (log 2). -/
def Obligations.BudgetExpiryDefers : Prop :=
  ∀ (n : LinkId) (k : SlotIdx) (s : State),
    (∀ sl t, s.slot ⟨n, k⟩ = some sl → sl.budgetTimer = some t → s.frameWaits = false →
      (∀ i sl' u, s.slot i = some sl' → sl'.budgetTimer = some u ∨ sl'.holdTimer = some u → t ≤ u) →
      exec (.budgetExpiry n k) s = .next ((State.tick^[t] s).updLink n fun l =>
        { l with
          slots := l.slots.set k (some
            { sl with
              phase := .deferred, reserved := false, budgetTimer := none, holdTimer := sl.holdTimer.map fun u => u - t })
          replies := l.replies ++ [.deferred sl.tag] }).settle) ∧
    (s.inboxesEmpty = true → ∃ j,
      let u := State.timebase^[j] s
      exec (.budgetExpiry n k) s = .next (u.budgetExpiry ⟨n, k⟩) ∧
      ∀ sl t, u.slot ⟨n, k⟩ = some sl → sl.budgetTimer = some t → t = 0) ∧
    ((∀ sl, s.slot ⟨n, k⟩ = some sl → sl.budgetTimer = none) → exec (.budgetExpiry n k) s = .next s)

/-- HOLD_EXPIRY: when no timer of the part has fewer ticks left than this one, and no frame waits that may be taken, the ticks it
has left pass, the held result is discarded and the slot is FREE, the dropped-results count goes up, holding at 65,535, and
DROPPED with tag and kind is queued, or lost and counted at a full queue, whatever the notify setting (R20, R21, R152). When
others run out before it, the part does what it does on its own, each expiry at its own tick, until this timer has run out or is
gone. That the row stands for the passing of the ticks is log 9; without a timer nothing expires (log 2). -/
def Obligations.HoldExpiryDrops : Prop :=
  ∀ (n : LinkId) (k : SlotIdx) (s : State),
    (∀ sl t, s.slot ⟨n, k⟩ = some sl → sl.holdTimer = some t → s.frameWaits = false → (s.link n).isResetting = false →
      (∀ i sl' u, s.slot i = some sl' → sl'.budgetTimer = some u ∨ sl'.holdTimer = some u → t ≤ u) →
      exec (.holdExpiry n k) s = .next ((State.tick^[t] s).updLink n fun l =>
        { l with
          slots := l.slots.set k none
          dropped := min (l.dropped + 1) 65535
          notices := if 16 ≤ l.notices.length then l.notices else l.notices ++ [.dropped sl.tag sl.job.kind]
          lost := if 16 ≤ l.notices.length then min (l.lost + 1) 65535 else l.lost }).settle) ∧
    (s.inboxesEmpty = true → ∃ j,
      let u := State.timebase^[j] s
      exec (.holdExpiry n k) s = .next (u.holdExpiry ⟨n, k⟩) ∧
      ∀ sl t, u.slot ⟨n, k⟩ = some sl → sl.holdTimer = some t → t = 0) ∧
    ((∀ sl, s.slot ⟨n, k⟩ = some sl → sl.holdTimer = none) → exec (.holdExpiry n k) s = .next s)

/-! ### Outcomes -/

/-- An outcome by phase: UNANSWERED, ANSWER in the reservation and the slot FREE (R17); DEFERRED, the slot HELD with the
outcome, a hold timer of 1,000 ticks a millisecond unless the hold time is 0, and READY if notify is on (R18, R20); SILENT,
the slot FREE and nothing reported (R19). -/
def Obligations.OutcomeIsHandledByPhase : Prop :=
  ∀ (s : State) (i : SlotId) (sl : Slot) (o : Outcome), s.slot i = some sl →
    (sl.phase = .unanswered →
      s.handleOutcome i o = s.updLink i.link fun l =>
        { l with slots := l.slots.set i.idx none, replies := l.replies ++ [.answer o.status sl.tag o.words] }) ∧
    (sl.phase = .deferred → (s.link i.link).notify = false →
      s.handleOutcome i o = s.updLink i.link fun l =>
        { l with slots := l.slots.set i.idx (some
          { sl with
            state := .held, outcome := some o, data := []
            holdTimer := if l.hold = 0 then none else some (l.hold.toNat * 1000) }) }) ∧
    (sl.phase = .deferred → (s.link i.link).notify = true →
      s.handleOutcome i o = s.updLink i.link fun l =>
        { l with slots := l.slots.set i.idx (some
          { sl with
            state := .held, outcome := some o, data := []
            holdTimer := if l.hold = 0 then none else some (l.hold.toNat * 1000) }) }.queueNotice
          (.ready sl.tag sl.job.kind o.status)) ∧
    (sl.phase = .silent → s.handleOutcome i o = s.updLink i.link fun l => { l with slots := l.slots.set i.idx none })

/-! ### Direct accesses -/

/-- DIRECT_ACCESS_COMPLETE of a READ whose slot waits for it: with every word sound, OK with the words in offset order; else
the fault is counted and STOREFAULT carries the offset of the lowest damaged word. The Store and the watches stay
(R69, R71, R72). -/
def Obligations.ReadCompletes : Prop :=
  ∀ (s : State) (a : DirectAccess) (r : Operand), s.port = .direct a → a.live = true → a.job = .read r →
    r.first + r.count ≤ 65536 →
    ((∀ i, i < r.count → (s.store.at (r.first + i)).sound = true) →
      exec .directAccessComplete s = .next
        ({ s with port := .idle }.handleOutcome a.owner
          { status := .ok, words := (List.range r.count).map fun i => (s.store.at (r.first + i)).contents }).settle) ∧
    (∀ k, k < r.count → (∀ i, i < k → (s.store.at (r.first + i)).sound = true) →
      (s.store.at (r.first + k)).sound = false →
      exec .directAccessComplete s = .next
        ({ s with port := .idle, faults := min (s.faults + 1) 65535 }.handleOutcome a.owner
          { status := .storeFault, words := [numWord (r.offset + k)] }).settle)

/-- DIRECT_ACCESS_COMPLETE of a WRITE whose slot waits for it: each word takes its data value and is sound, every other word
stays; the report names every word, marked changed when it was damaged or held another value; the outcome is OK with no
words (R69, R74, R79, R80). -/
def Obligations.WriteCompletes : Prop :=
  ∀ (s : State) (a : DirectAccess) (r : Operand), s.port = .direct a → a.live = true → a.job = .write r →
    r.first + a.data.length ≤ 65536 → a.data ≠ [] → s.store.wf = true →
    ∃ st : Store, st.wf = true ∧
      (∀ b, st.at b =
        if r.first ≤ b ∧ b < r.first + a.data.length then { contents := a.data[b - r.first]?.getD 0, sound := true }
        else s.store.at b) ∧
      exec .directAccessComplete s = .next
        (({ s with port := .idle, store := st }.handReport (some
          { writer := a.owner.link, first := r.first
            marks := a.data.mapIdx fun i w =>
              decide ((s.store.at (r.first + i)).sound = false ∨ (s.store.at (r.first + i)).contents ≠ w) })).handleOutcome
          a.owner { status := .ok, words := [] }).settle

/-- DIRECT_ACCESS_COMPLETE of an EXCHANGE whose slot waits for it, by the three rows of R77: a damaged word, STOREFAULT, counted
and not written; equal under the mask, the new word written and OK with the old one; different, MISMATCH with the old
word and nothing written (R69, R77, R78). -/
def Obligations.ExchangeCompletes : Prop :=
  ∀ (s : State) (a : DirectAccess) (r : Operand) (c m v : Word), s.port = .direct a → a.live = true →
    a.job = .exchange r c m v → r.first < 65536 → s.store.wf = true →
    ((s.store.at r.first).sound = false →
      exec .directAccessComplete s = .next
        ({ s with port := .idle, faults := min (s.faults + 1) 65535 }.handleOutcome a.owner
          { status := .storeFault, words := [numWord r.offset] }).settle) ∧
    ((s.store.at r.first).sound = true → (s.store.at r.first).contents &&& m = c &&& m →
      ∃ st : Store, st.wf = true ∧
        (∀ b, st.at b = if b = r.first then { contents := v, sound := true } else s.store.at b) ∧
        exec .directAccessComplete s = .next
          (({ s with port := .idle, store := st }.handReport (some
            { writer := a.owner.link, first := r.first, marks := [decide ((s.store.at r.first).contents ≠ v)] })).handleOutcome
            a.owner { status := .ok, words := [(s.store.at r.first).contents] }).settle) ∧
    ((s.store.at r.first).sound = true → (s.store.at r.first).contents &&& m ≠ c &&& m →
      exec .directAccessComplete s = .next
        ({ s with port := .idle }.handleOutcome a.owner
          { status := .mismatch, words := [(s.store.at r.first).contents] }).settle)

/-! ### Watches -/

/-- A write report against the Watch Table: a watch that counts no word of it stays; a FIRED one that counts one misses one
more, holding at 255; an ARMED one fires; and each link's Notice Queue is offered CHANGED for each of its watches that
fired, in ascending watch id, with the writer and the offset in the watch of the lowest counted word (R132 to R136). -/
def Obligations.ReportReachesTheWatches : Prop :=
  ∀ (s : State) (r : WriteReport),
    let counted (w : Watch) : Option Nat := (List.range r.marks.length).find? fun i =>
      decide (w.first ≤ r.first + i ∧ r.first + i < w.first + w.count) &&
        (decide (w.mode = .write) || r.marks[i]?.getD false) && (w.selfOn || decide (r.writer ≠ w.owner))
    (∀ id, (s.handReport (some r)).watch id = (s.watch id).map fun w =>
      match counted w with
      | none => w
      | some _ => if w.fired then { w with missed := min (w.missed + 1) 255 } else { w with fired := true }) ∧
    (∀ n, (s.handReport (some r)).link n =
      ((List.finRange 32).filterMap fun id =>
        (s.watch id).bind fun w =>
          if w.owner = n ∧ w.fired = false then
            (counted w).map fun i => Notice.changed id r.writer (r.first + i - w.first)
          else none).foldl Link.queueNotice (s.link n)) ∧
    s.handReport (some r) = { s with links := (s.handReport (some r)).links, watches := (s.handReport (some r)).watches } ∧
    s.handReport none = s

/-! ### Strides and their settlement -/

/-- STRIDE_COMPLETE, in the order of R92: the fault counted, the report handed with the owner's link as writer, the cursor
advanced; then the first case of R94 that applies: STOREFAULT; the operation's own outcome; CANCELLED; suspension; or the
next stride asked for, of 16 positions or those left (R89, R93 to R100). Dispatch and the port's choice follow. -/
def Obligations.StrideCompletionIsSettled : Prop :=
  ∀ (s : State) (r : Stride) (sl : Slot), s.port = .stride r → s.slot r.owner = some sl → sl.state = .running →
    r.inStore sl = true →
    let run := r.run sl s.store
    let sl' := { sl with cursor := { sl.cursor with
      done := sl.cursor.done + run.done
      next := if sl.cursor.dir = .upward then sl.cursor.next + run.done else sl.cursor.next - run.done
      acc := run.acc } }
    let t := ({ s with
      port := .idle, store := run.store
      faults := if run.fault = none then s.faults else min (s.faults + 1) 65535 }.handReport (r.report sl run)).setSlot
        r.owner (some sl')
    (∀ f, run.fault = some f → exec .strideComplete s = .next (t.handleOutcome r.owner (sl'.faultOutcome f)).settle) ∧
    (run.fault = none → run.found ≠ none ∨ sl'.cursor.done = sl.job.count →
      exec .strideComplete s = .next (t.handleOutcome r.owner (sl'.ownOutcome run.found)).settle) ∧
    (run.fault = none → run.found = none → sl'.cursor.done ≠ sl.job.count → sl.cancelMark = true →
      exec .strideComplete s = .next (t.handleOutcome r.owner sl'.cancelledOutcome).settle) ∧
    (run.fault = none → run.found = none → sl'.cursor.done ≠ sl.job.count → sl.cancelMark = false →
      (∃ p ∈ t.engineQueue, sl.priority < p.2.priority ∧ t.engineEligible p.1 p.2 = true) →
      exec .strideComplete s = .next (t.setSlot r.owner (some { sl' with state := .suspended })).settle) ∧
    (run.fault = none → run.found = none → sl'.cursor.done ≠ sl.job.count → sl.cancelMark = false →
      (∀ p ∈ t.engineQueue, sl.priority < p.2.priority → t.engineEligible p.1 p.2 = false) →
      exec .strideComplete s = .next
        { t with stride := some (Stride.mk r.owner sl'.cursor.next (min 16 (sl.job.count - sl'.cursor.done))) }.settle)

/-- The result words a block operation ends with, from its advanced cursor: R109, R113, R116, R118, R121, R124 and R125. -/
def Obligations.BlockOutcomesCarryTheirWords : Prop :=
  ∀ (sl : Slot) (f : StrideFault) (w : Word),
    (∀ a b, sl.job = .copy a b →
      sl.ownOutcome none = ⟨.ok, [numWord sl.cursor.done]⟩ ∧ sl.cancelledOutcome = ⟨.cancelled, [numWord sl.cursor.done]⟩ ∧
      sl.faultOutcome f = ⟨.storeFault, [numWord f.offset, numWord sl.cursor.done]⟩) ∧
    (∀ a t v m, sl.job = .find a t v m →
      (0 < sl.cursor.done →
        sl.ownOutcome (some w) = ⟨.ok, [numWord (a.offset + (sl.cursor.done - 1)), w]⟩) ∧
      sl.ownOutcome none = ⟨.notFound, [numWord sl.cursor.done]⟩ ∧
      sl.cancelledOutcome = ⟨.cancelled, [numWord sl.cursor.done]⟩ ∧
      sl.faultOutcome f = ⟨.storeFault, [numWord f.offset, numWord sl.cursor.done]⟩) ∧
    (∀ a g i, sl.job = .fold a g i →
      sl.ownOutcome none = ⟨.ok, [sl.cursor.acc, numWord sl.cursor.done]⟩ ∧
      sl.cancelledOutcome = ⟨.cancelled, [numWord sl.cursor.done, sl.cursor.acc]⟩ ∧
      sl.faultOutcome f = ⟨.storeFault, [numWord f.offset, numWord sl.cursor.done, sl.cursor.acc]⟩) ∧
    (∀ a g x, sl.job = .apply a g x →
      sl.ownOutcome none = ⟨.ok, [numWord sl.cursor.done]⟩ ∧ sl.cancelledOutcome = ⟨.cancelled, [numWord sl.cursor.done]⟩ ∧
      sl.faultOutcome f = ⟨.storeFault, [numWord f.offset, numWord sl.cursor.done]⟩) ∧
    (∀ a t m, sl.job = .map a t m →
      sl.ownOutcome none = ⟨.ok, [numWord sl.cursor.done]⟩ ∧ sl.cancelledOutcome = ⟨.cancelled, [numWord sl.cursor.done]⟩ ∧
      sl.faultOutcome f = ⟨.storeFault, [numWord f.offset, numWord sl.cursor.done, if f.table then 1 else 0]⟩)

/-- An access whose slot a reset took completes whole all the same. A direct access whose slot was freed: fault, words and report
are those of the access, and its outcome is discarded (R68). STOPPING_STRIDE_COMPLETE: the stride's words are written, its fault
counted and its report handed, and the slot is FREE with no outcome (R103). -/
def Obligations.AccessesOfResetSlotsComplete : Prop :=
  (∀ (s : State) (a : DirectAccess), s.port = .direct a → a.live = false → a.inStore = true →
      exec .directAccessComplete s = .next
        ({ s with
          port := .idle, store := (a.run s.store).store
          faults := if (a.run s.store).fault then min (s.faults + 1) 65535 else s.faults }.handReport
          (if (a.run s.store).marks = [] then none
           else some { writer := a.owner.link, first := (a.run s.store).first, marks := (a.run s.store).marks })).settle) ∧
  ∀ (s : State) (r : Stride) (sl : Slot), s.port = .stride r → s.slot r.owner = some sl → sl.state = .stopping →
    r.inStore sl = true →
    exec .stoppingStrideComplete s = .next
      (({ s with
        port := .idle, store := (r.run sl s.store).store
        faults := if (r.run sl s.store).fault = none then s.faults else min (s.faults + 1) 65535 }.handReport
        (r.report sl (r.run sl s.store))).setSlot r.owner none).settle

/-- A stride takes the positions it was asked for, in the cursor's direction. Its report names the writer, and the words
written in ascending order with their marks, whichever way they were taken: of a COPY the destination's, of an APPLY or a MAP
the range's; with no word written, as always for FIND and FOLD, there is none (R79, R89, R111, R126). A COPY stride, in the
direction its admission fixed, writes each position's destination word with what the source word holds, marks it changed when
it was damaged or held another value, and stops at a damaged source word (R80, R110, R111). -/
def Obligations.StridesReportTheirWords : Prop :=
  (∀ (r : Stride) (sl : Slot) (st : Store),
    r.run sl st = sl.job.positions sl.cursor.dir r.size r.start st sl.cursor.acc) ∧
  (∀ (r : Stride) (sl : Slot) (run : StrideRun) (o : Operand),
    (∃ a, sl.job = .copy a o) ∨ (∃ g x, sl.job = .apply o g x) ∨ (∃ t m, sl.job = .map o t m) →
    (run.marks = [] → r.report sl run = none) ∧
    (run.marks ≠ [] → sl.cursor.dir = .upward →
      r.report sl run = some { writer := r.owner.link, first := o.first + r.start, marks := run.marks }) ∧
    (run.marks ≠ [] → sl.cursor.dir = .downward → run.marks.length ≤ r.start + 1 →
      r.report sl run = some
        { writer := r.owner.link, first := o.first + (r.start + 1 - run.marks.length), marks := run.marks.reverse })) ∧
  (∀ (r : Stride) (sl : Slot) (st : Store), (∃ a t v m, sl.job = .find a t v m) ∨ (∃ a g v, sl.job = .fold a g v) →
    r.report sl (r.run sl st) = none) ∧
  ∀ (a b : Operand) (n k i : Nat) (st : Store) (acc : Word), i ≤ n → st.wf = true →
    let changed (j : Nat) : Bool :=
      decide ((st.at (b.first + j)).sound = false ∨ (st.at (b.first + j)).contents ≠ (st.at (a.first + j)).contents)
    let copied (x : Nat) : StoreWord := { contents := (st.at (a.first + (x - b.first))).contents, sound := true }
    let above : Prop := a.first < b.first ∧ b.first < a.first + a.count
    (¬ above → k + n ≤ a.count → b.first + (k + n) ≤ 65536 →
      (∀ j, j < i → (st.at (a.first + (k + j))).sound = true) →
      (i < n → (st.at (a.first + (k + i))).sound = false) →
      let run := (Job.copy a b).positions .upward n k st acc
      run.done = i ∧ run.acc = acc ∧ run.found = none ∧ run.store.wf = true ∧
      run.fault = (if i < n then some { offset := a.offset + (k + i), table := false } else none) ∧
      (∀ x, run.store.at x = if b.first + k ≤ x ∧ x < b.first + (k + i) then copied x else st.at x) ∧
      run.marks = (List.range i).map fun j => changed (k + j)) ∧
    (above → k < a.count → n ≤ k + 1 → b.first + (k + 1) ≤ 65536 →
      (∀ j, j < i → (st.at (a.first + (k - j))).sound = true) →
      (i < n → (st.at (a.first + (k - i))).sound = false) →
      let run := (Job.copy a b).positions .downward n k st acc
      run.done = i ∧ run.acc = acc ∧ run.found = none ∧ run.store.wf = true ∧
      run.fault = (if i < n then some { offset := a.offset + (k - i), table := false } else none) ∧
      (∀ x, run.store.at x = if b.first + k < x + i ∧ x ≤ b.first + k then copied x else st.at x) ∧
      run.marks = (List.range i).map fun j => changed (k - j))

/-! ### Block operations -/

/-- A COPY over any two ranges of one count, overlapping or not, taken in strides of any sizes in the direction its admission
fixed, leaves every destination word with what the source word held before it began, sound, and every other word as it
was (R110, R111, R112). -/
def Obligations.CopyMovesItsRange : Prop :=
  ∀ (a b : Operand) (st : Store) (sizes : List Nat), a.count = b.count → sizes.sum = a.count →
    a.first + a.count ≤ 65536 → b.first + b.count ≤ 65536 → st.wf = true →
    (∀ k, k < a.count → (st.at (a.first + k)).sound = true) →
    let c := (Job.copy a b).startCursor
    let last := sizes.foldl (fun (x : Store × Nat) n =>
      (((Job.copy a b).positions c.dir n x.2 x.1 0).store, c.dir.after^[n] x.2)) (st, c.next)
    last.1.wf = true ∧
    ∀ x, last.1.at x =
      if b.first ≤ x ∧ x < b.first + a.count then
        { contents := (st.at (a.first + (x - b.first))).contents, sound := true }
      else st.at x

/-- FIND's tests, masked, on unsigned words; a mask of 0 makes EQ and NONESET hold and the others not, and a damaged word
still stops the FIND, whatever the mask (R114). -/
def Obligations.FindTestsMaskedWords : Prop :=
  (∀ w v m : Word,
    (FindTest.eq.holds (w &&& m) (v &&& m) = true ↔ w &&& m = v &&& m) ∧
    (FindTest.ne.holds (w &&& m) (v &&& m) = true ↔ w &&& m ≠ v &&& m) ∧
    (FindTest.lt.holds (w &&& m) (v &&& m) = true ↔ (w &&& m).toNat < (v &&& m).toNat) ∧
    (FindTest.gt.holds (w &&& m) (v &&& m) = true ↔ (v &&& m).toNat < (w &&& m).toNat) ∧
    (FindTest.anyset.holds (w &&& m) (v &&& m) = true ↔ w &&& m ≠ 0) ∧
    (FindTest.noneset.holds (w &&& m) (v &&& m) = true ↔ w &&& m = 0)) ∧
  (∀ (t : FindTest) (w v : Word), t.holds (w &&& 0) (v &&& 0) = decide (t = .eq ∨ t = .noneset)) ∧
  (∀ (t : FindTest) (w v : Word), t.holds (w &&& 0xFFFFFFFF) (v &&& 0xFFFFFFFF) = t.holds w v) ∧
  ∀ (a : Operand) (t : FindTest) (v m : Word) (st : Store) (k : Nat) (acc : Word),
    (∀ w, (st.at (a.first + k)).sound = true → (st.at (a.first + k)).contents = w →
      (Job.find a t v m).position st k acc =
        if t.holds (w &&& m) (v &&& m) = true then .matched w else .finished st acc none) ∧
    ((st.at (a.first + k)).sound = false →
      (Job.find a t v m).position st k acc = .stopped { offset := a.offset + k, table := false })

/-- A FIND stride reads upward and stops after the lowest position that passes, or at a damaged word before it; it writes
nothing, and reads nothing beyond the match (R115, R116). -/
def Obligations.FindReportsTheLowestMatch : Prop :=
  ∀ (a : Operand) (t : FindTest) (v m : Word) (n k : Nat) (st : Store) (acc : Word),
    let word (i : Nat) := (st.at (a.first + (k + i))).contents
    let sound (i : Nat) := (st.at (a.first + (k + i))).sound = true
    let passes (i : Nat) := t.holds (word i &&& m) (v &&& m) = true
    let run := (Job.find a t v m).positions .upward n k st acc
    (∀ i, i < n → (∀ j, j ≤ i → sound j) → (∀ j, j < i → ¬ passes j) → passes i →
      run = { store := st, acc := acc, done := i + 1, marks := [], fault := none, found := some (word i) }) ∧
    (∀ i, i < n → (∀ j, j < i → sound j ∧ ¬ passes j) → ¬ sound i →
      run = { store := st, acc := acc, done := i, marks := [], found := none
              fault := some { offset := a.offset + (k + i), table := false } }) ∧
    ((∀ j, j < n → sound j ∧ ¬ passes j) →
      run = { store := st, acc := acc, done := n, marks := [], fault := none, found := none })

/-- A FOLD stride combines the words it reads, upward, into the accumulator by R117's table, and stops at a damaged word, which
is not combined; it writes nothing (R117). -/
def Obligations.FoldAccumulates : Prop :=
  ∀ (a : Operand) (g : FoldFn) (init : Word) (n k i : Nat) (st : Store) (acc : Word), i ≤ n →
    (∀ j, j < i → (st.at (a.first + (k + j))).sound = true) →
    (i < n → (st.at (a.first + (k + i))).sound = false) →
    (Job.fold a g init).positions .upward n k st acc =
      { store := st, done := i, marks := [], found := none
        acc := (List.range i).foldl (fun x j =>
          let w := (st.at (a.first + (k + j))).contents
          match g with
          | .sum => x + w
          | .xor => x ^^^ w
          | .or => x ||| w
          | .and => x &&& w) acc
        fault := if i < n then some { offset := a.offset + (k + i), table := false } else none }

/-- An APPLY stride rewrites its words upward by R119's table, each sound afterwards; SET reads none and repairs; any other
function stops at a damaged word, which it leaves (R119, R120). The marks say which words changed (R80). -/
def Obligations.ApplyRewrites : Prop :=
  ∀ (a : Operand) (g : ApplyFn) (x : Word) (n k i : Nat) (st : Store) (acc : Word), i ≤ n →
    a.first + (k + n) ≤ 65536 → st.wf = true →
    (g ≠ .set → ∀ j, j < i → (st.at (a.first + (k + j))).sound = true) →
    (i < n → g ≠ .set ∧ (st.at (a.first + (k + i))).sound = false) →
    let new (w : Word) : Word := match g with
      | .set => x
      | .or => w ||| x
      | .and => w &&& x
      | .xor => w ^^^ x
      | .add => w + x
    let run := (Job.apply a g x).positions .upward n k st acc
    run.done = i ∧ run.acc = acc ∧ run.found = none ∧ run.store.wf = true ∧
    run.fault = (if i < n then some { offset := a.offset + (k + i), table := false } else none) ∧
    (∀ b, run.store.at b =
      if a.first + k ≤ b ∧ b < a.first + k + i then { contents := new (st.at b).contents, sound := true } else st.at b) ∧
    run.marks = (List.range i).map fun j =>
      decide ((st.at (a.first + (k + j))).sound = false ∨
        (st.at (a.first + (k + j))).contents ≠ new (st.at (a.first + (k + j))).contents)

/-- A MAP stride over a range apart from its table replaces, upward, the least significant octet of each word, or all four, by
the images of their own values; it stops at a damaged range word, or at the first damaged entry its word selects, least
significant octet first, and leaves that word (R122, R123, R124). A word is marked changed when its new value
differs (R80). -/
def Obligations.MapTranslates : Prop :=
  ∀ (a t : Operand) (mode : MapMode) (n k i : Nat) (st : Store) (acc : Word), i ≤ n → st.wf = true →
    a.first + (k + n) ≤ 65536 → t.first + 256 ≤ 65536 → (a.first + (k + n) ≤ t.first ∨ t.first + 256 ≤ a.first + k) →
    let octetOf (w : Word) (q : Nat) : Octet := w.extractLsb' (8 * q) 8
    let consulted (w : Word) : List Octet := match mode with
      | .low => [octetOf w 0]
      | .all => [octetOf w 0, octetOf w 1, octetOf w 2, octetOf w 3]
    let entry (e : Octet) : StoreWord := st.at (t.first + e.toNat)
    let whole (j : Nat) : Prop := (st.at (a.first + (k + j))).sound = true ∧
      ∀ e ∈ consulted (st.at (a.first + (k + j))).contents, (entry e).sound = true
    (∀ j, j < i → whole j) →
    let run := (Job.map a t mode).positions .upward n k st acc
    let done : Prop := run.done = i ∧ run.found = none ∧ run.store.wf = true ∧
      run.marks = ((List.range i).map fun j =>
        decide ((st.at (a.first + (k + j))).contents ≠ (run.store.at (a.first + (k + j))).contents)) ∧
      (∀ b, ¬ (a.first + k ≤ b ∧ b < a.first + k + i) → run.store.at b = st.at b) ∧
      ∀ b, a.first + k ≤ b → b < a.first + k + i →
        (run.store.at b).sound = true ∧
        ∀ q, q < 4 → octetOf (run.store.at b).contents q =
          if q = 0 ∨ mode = .all then octetOf (entry (octetOf (st.at b).contents q)).contents 0
          else octetOf (st.at b).contents q
    (i = n → done ∧ run.fault = none) ∧
    (i < n → (st.at (a.first + (k + i))).sound = false →
      done ∧ run.fault = some { offset := a.offset + (k + i), table := false }) ∧
    (i < n → (st.at (a.first + (k + i))).sound = true →
      ∀ e, (consulted (st.at (a.first + (k + i))).contents).find? (fun e => !(entry e).sound) = some e →
        done ∧ run.fault = some { offset := t.offset + e.toNat, table := true })

/-! ### Claims, the port and the engine -/

/-- R51: store ranges overlap when some store address lies in both; claims of different slots conflict when their ranges
overlap and one at least is exclusive, so that two shared claims never do. -/
def Obligations.ClaimsConflictAsR51Says : Prop :=
  (∀ c d : Claim, c.conflicts d = true ↔
    (∃ x, c.first ≤ x ∧ x < c.first + c.count ∧ d.first ≤ x ∧ x < d.first + d.count) ∧
      (c.exclusive = true ∨ d.exclusive = true)) ∧
  ∀ (s : State) (i : SlotId) (cs : List Claim),
    s.clearOfClaims i cs = true ↔
      ∀ (j : SlotId) (sl : Slot), j ≠ i → s.slot j = some sl → ∀ d ∈ sl.claims, ∀ c ∈ cs, c.conflicts d = false

/-- The Store Port's choice: an idle port starts the stride asked for when no direct candidate stands or the marker is DIRECT,
else the direct candidate with the smallest admission number; the marker takes the kind started (R62, R63, R64). The
direct candidates are the WAITING slots not in access that no conflicting claim and no earlier posted WRITE of their link
holds back (R56, R59). -/
def Obligations.PortChoosesByMarkerAndAge : Prop :=
  ∀ s : State,
    (∀ (i : SlotId) (sl : Slot), (i, sl) ∈ s.directCandidates ↔
      s.slot i = some sl ∧ sl.state = .waiting ∧ s.inAccess i = false ∧ s.clearOfClaims i sl.job.claims = true ∧
        ∀ k sl', s.slot ⟨i.link, k⟩ = some sl' → sl'.state = .waiting → sl'.phase = .silent →
          sl.admission ≤ sl'.admission) ∧
    (s.port ≠ .idle → s.portChoose = s) ∧
    (s.port = .idle → s.stride = none → s.directCandidates = [] → s.portChoose = s) ∧
    (∀ r, s.port = .idle → s.stride = some r → s.directCandidates = [] ∨ s.marker = .direct →
      s.portChoose = { s with port := .stride r, stride := none, marker := .engine }) ∧
    (s.port = .idle → s.directCandidates ≠ [] → s.stride = none ∨ s.marker = .engine →
      ∃ (i : SlotId) (sl : Slot), (i, sl) ∈ s.directCandidates ∧
        (∀ q ∈ s.directCandidates, sl.admission ≤ q.2.admission) ∧
        s.portChoose = { s with
          port := .direct { owner := i, live := true, job := sl.job, data := sl.data }, marker := .direct })

/-- Dispatch: an engine with no RUNNING or STOPPING slot dispatches the first eligible entry in queue order, whose slot becomes
RUNNING with its cursor as it stands, and asks for its stride (R82, R85, R86, R87, R89); an entry is eligible when SUSPENDED, or
when its claims conflict with none held, no earlier posted WRITE of its link waits and it carries no mark (R57). -/
def Obligations.DispatchTakesTheFirstEligible : Prop :=
  ∀ s : State,
    (∀ (i : SlotId) (sl : Slot), s.engineEligible i sl = true ↔
      sl.state = .suspended ∨ s.clearOfClaims i sl.job.claims = true ∧ sl.cancelMark = false ∧
        ∀ k sl', s.slot ⟨i.link, k⟩ = some sl' → sl'.state = .waiting → sl'.phase = .silent →
          sl.admission ≤ sl'.admission) ∧
    ((∃ i sl, s.slot i = some sl ∧ (sl.state = .running ∨ sl.state = .stopping)) → s.dispatch = s) ∧
    ((∀ p ∈ s.engineQueue, s.engineEligible p.1 p.2 = false) → s.dispatch = s) ∧
    (∀ before i sl after, (∀ j sl', s.slot j = some sl' → sl'.state ≠ .running ∧ sl'.state ≠ .stopping) →
      s.engineQueue = before ++ (i, sl) :: after → (∀ p ∈ before, s.engineEligible p.1 p.2 = false) →
      s.engineEligible i sl = true →
      s.dispatch = { s.setSlot i (some { sl with state := .running }) with
        stride := some (Stride.mk i sl.cursor.next (min 16 (sl.job.count - sl.cursor.done))) })

/-- The Engine Queue holds the QUEUED and SUSPENDED slots, each once, higher priority first and the smaller admission number
first within a priority (R83, R84). -/
def Obligations.EngineQueueIsOrdered : Prop :=
  ∀ s : State,
    (∀ (i : SlotId) (sl : Slot), (i, sl) ∈ s.engineQueue ↔
      s.slot i = some sl ∧ (sl.state = .queued ∨ sl.state = .suspended)) ∧
    (s.engineQueue.map fun p => p.1).Nodup ∧
    s.engineQueue.Pairwise fun p q =>
      q.2.priority < p.2.priority ∨ p.2.priority = q.2.priority ∧ p.2.admission ≤ q.2.admission

/-- An operand's segment id names the entry of that number, and none over 63 (log 16). The Segment Table's answer: NOSEG for
an undefined entry, OUTSIDE when offset + count, not wrapped, exceeds the length, DENIED when the right does not satisfy the
need in the order NONE, READ, WRITE, else the range from base + offset (R42, R43). -/
def Obligations.TranslationAnswers : Prop :=
  ∀ (s : State) (n : LinkId) (need : Right) (r : Ref),
    (∀ id : SegmentId, s.segmentOf (octet id.val) = s.segment id) ∧
    (∀ o : Octet, 64 ≤ o.toNat → s.segmentOf o = none) ∧
    (s.segmentOf r.segment = none → s.translate n need r = .error .noSeg) ∧
    ∀ g, s.segmentOf r.segment = some g →
      (g.length < r.offset + r.count → s.translate n need r = .error .outside) ∧
      (r.offset + r.count ≤ g.length → (g.right n).code < need.code → s.translate n need r = .error .denied) ∧
      (r.offset + r.count ≤ g.length → need.code ≤ (g.right n).code →
        s.translate n need r =
          .ok { segment := r.segment, offset := r.offset, count := r.count, first := g.base + r.offset }) ∧
      Right.none.code < Right.read.code ∧ Right.read.code < Right.write.code

/-! ### Requests -/

/-- The first checks of every frame, in order: BADKIND for a kind code that is no request's; BADLEN for a length field that
disagrees with the payload, or a length the kind does not allow; BADARG for a flag the kind does not allow. A refused frame is
answered with the status, the frame's tag and no words, and nothing else changes; so UNKNOWN_KIND_FRAME is answered BADKIND,
and LINKSET_UNKNOWN_PARAMETER and QUERY_UNKNOWN_SELECTOR of the right length BADARG (R7, R10, R171 to R175, R179, R181). -/
def Obligations.FirstChecksRefuse : Prop :=
  (∀ f : Frame, f.kind ∉ requestCodes → parseFrame f = .error .badKind) ∧
  (∀ f : Frame, f.kind ∈ requestCodes →
    f.length.toNat ≠ f.payload.length ∨ ¬ lengthAllowed f.kind f.payload.length → parseFrame f = .error .badLen) ∧
  (∀ f : Frame, f.length.toNat = f.payload.length → lengthAllowed f.kind f.payload.length →
    f.flags ≠ 0 → ¬ (f.kind = 0x11 ∧ f.flags = 1) → parseFrame f = .error .badArg) ∧
  (∀ (s : State) (n : LinkId) (f : Frame) (e : Status), s.serves n = true → f.payload.length ≤ 260 →
    parseFrame f = .error e →
    exec (Instr.ofFrame n f) s = .next (s.placeReply n (.answer e f.tag [])).arbitrate) ∧
  (∀ (s : State) (n : LinkId) (kind : Octet) (h : Header) (p : List Octet), s.serves n = true → p.length ≤ 260 →
    kind ∉ requestCodes →
    exec (.unknownKindFrame n kind h p) s = .next (s.placeReply n (.answer .badKind h.tag [])).arbitrate) ∧
  (∀ (s : State) (n : LinkId) (h : Header) (t c v1 v0 : Octet), s.serves n = true → h.length = 4 → 4 < c.toNat →
    exec (.linksetUnknownParameter n h [t, c, v1, v0]) s =
      .next (s.placeReply n (.answer .badArg h.tag [])).arbitrate) ∧
  ∀ (s : State) (n : LinkId) (h : Header) (c a : Octet), s.serves n = true → h.length = 2 → 4 < c.toNat →
    exec (.queryUnknownSelector n h [c, a]) s = .next (s.placeReply n (.answer .badArg h.tag [])).arbitrate

/-- The field ranges of every request kind: a frame of an allowed length and no flag its kind does not allow is BADARG when a
field is out of range, and has a request otherwise (R8, R44, R46, R107, R130, R137, R138, R179, R181, R184). How BADARG is
answered is `FirstChecksRefuse`. -/
def Obligations.FieldsOutOfRangeAreBadArg : Prop :=
  ∀ f : Frame, f.length.toNat = f.payload.length → lengthAllowed f.kind f.payload.length →
    f.flags = 0 ∨ f.kind = 0x11 ∧ f.flags = 1 →
    let field (i : Nat) : Nat := (f.payload[i]?.getD 0).toNat
    let value : Nat := 256 * field 2 + field 3
    let outOfRange : Prop :=
      (f.kind = 0x10 ∧ (field 3 = 0 ∨ 64 < field 3)) ∨
      (f.kind = 0x21 ∧ 5 < field 5) ∨ (f.kind = 0x22 ∧ 3 < field 5) ∨ (f.kind = 0x23 ∧ 4 < field 5) ∨
      (f.kind = 0x24 ∧ 1 < field 8) ∨
      (f.kind = 0x40 ∧ (63 < field 0 ∨ 1 < field 5 ∨ 1 < field 6)) ∨
      ((f.kind = 0x41 ∨ f.kind = 0x42) ∧ 31 < field 0) ∨
      (f.kind = 0x50 ∧ (63 < field 0 ∨ 2 < field 5 ∨ 2 < field 6 ∨ 2 < field 7 ∨ 2 < field 8)) ∨
      (f.kind = 0x51 ∧ 63 < field 0) ∨
      (f.kind = 0x52 ∧ (3 < field 0 ∨ 4 < field 1 ∨ (field 1 = 2 ∨ field 1 = 4) ∧ 1 < value ∨ field 1 = 3 ∧ 3 < value ∨
        field 1 = 4 ∧ field 0 = 0 ∧ value = 0)) ∨
      (f.kind = 0x53 ∧ (4 < field 0 ∨ field 0 = 1 ∧ 3 < field 1 ∨ field 0 = 3 ∧ 63 < field 1 ∨
        (field 0 = 0 ∨ field 0 = 2 ∨ field 0 = 4) ∧ field 1 ≠ 0)) ∨
      (f.kind = 0x54 ∧ 3 < field 0)
    (outOfRange → parseFrame f = .error .badArg) ∧ (¬ outOfRange → ∃ r, parseFrame f = .ok r)

/-- READ, WRITE, POSTED_WRITE, EXCHANGE, COPY, FIND, FOLD, APPLY and MAP, refused after the first checks, at the first that fails:
BADARG for a MAP whose table overlaps its range, both inside defined segments; DUPTAG; NOSLOT; then the operands in order
with the right each needs. The refusal is answered and nothing else changes (R7, R8, R9, R10). -/
def Obligations.DataRequestsAreRefusedInOrder : Prop :=
  (∀ (s : State) (n : LinkId) (tag : Tag) (r : DataRequest), s.serves n = true → r.sendable = true →
    let refused (e : Status) : Prop := exec (r.command n tag) s = .next (s.placeReply n (.answer e tag [])).arbitrate
    let overlap : Prop := ∃ a t mode ga gt, r.job = .map a t mode ∧
      s.segmentOf a.segment = some ga ∧ s.segmentOf t.segment = some gt ∧
      a.offset + a.count ≤ ga.length ∧ t.offset + t.count ≤ gt.length ∧
      ∃ x, ga.base + a.offset ≤ x ∧ x < ga.base + a.offset + a.count ∧
        gt.base + t.offset ≤ x ∧ x < gt.base + t.offset + t.count
    let tagFree : Prop := ∀ k sl, s.slot ⟨n, k⟩ = some sl → sl.tag ≠ tag
    (overlap → refused .badArg) ∧
    (¬ overlap → ¬ tagFree → refused .dupTag) ∧
    (¬ overlap → tagFree → (∀ k, s.slot ⟨n, k⟩ ≠ none) → refused .noSlot) ∧
    (∀ e, ¬ overlap → tagFree → (∃ k, s.slot ⟨n, k⟩ = none) → s.translateJob n r.job = .error e → refused e)) ∧
  ∀ (s : State) (n : LinkId) (a b : Ref) (c m v : Word) (t : FindTest) (g : FoldFn) (h : ApplyFn) (mode : MapMode),
    s.translateJob n (.read a) = (s.translate n .read a).map Job.read ∧
    s.translateJob n (.write a) = (s.translate n .write a).map Job.write ∧
    s.translateJob n (.exchange a c m v) = (s.translate n .write a).map (fun x => Job.exchange x c m v) ∧
    s.translateJob n (.find a t v m) = (s.translate n .read a).map (fun x => Job.find x t v m) ∧
    s.translateJob n (.fold a g v) = (s.translate n .read a).map (fun x => Job.fold x g v) ∧
    s.translateJob n (.apply a h v) = (s.translate n .write a).map (fun x => Job.apply x h v) ∧
    (∀ e, s.translate n .read a = .error e → s.translateJob n (.copy a b) = .error e) ∧
    (∀ x, s.translate n .read a = .ok x →
      s.translateJob n (.copy a b) = (s.translate n .write b).map (fun y => Job.copy x y)) ∧
    (∀ e, s.translate n .write a = .error e → s.translateJob n (.map a b mode) = .error e) ∧
    (∀ x, s.translate n .write a = .ok x →
      s.translateJob n (.map a b mode) = (s.translate n .read b).map (fun y => Job.map x y mode))

/-- READ, WRITE, POSTED_WRITE, EXCHANGE, COPY, FIND, FOLD, APPLY and MAP, admitted: the lowest FREE slot takes the record of
R11 and the admission count goes up by one. A direct request is WAITING, a block operation QUEUED with its cursor at its start
(R108, R110); a posted WRITE is SILENT with no reservation and no timer; any other is UNANSWERED with both, or, under a budget
of 0, DEFERRED with its DEFERRED placed (R1, R4, R11, R12, R13, R75). -/
def Obligations.DataRequestsAreAdmitted : Prop :=
  ∀ (s : State) (n : LinkId) (tag : Tag) (k : SlotIdx) (r : DataRequest) (job : Job Operand),
    s.serves n = true → r.sendable = true → s.mapOverlaps r.job = false →
    (∀ j sl, s.slot ⟨n, j⟩ = some sl → sl.tag ≠ tag) →
    s.slot ⟨n, k⟩ = none → (∀ j, j < k → s.slot ⟨n, j⟩ ≠ none) → s.translateJob n r.job = .ok job →
    let start : Cursor := match job with
      | .copy a b =>
        if a.first < b.first ∧ b.first < a.first + a.count then
          { done := 0, next := a.count - 1, acc := 0, dir := .downward }
        else { done := 0, next := 0, acc := 0, dir := .upward }
      | .fold _ _ initial => { done := 0, next := 0, acc := initial, dir := .upward }
      | _ => { done := 0, next := 0, acc := 0, dir := .upward }
    let fresh : Slot :=
      { state := match job with
          | .read _ | .write _ | .exchange .. => .waiting
          | .copy .. | .find .. | .fold .. | .apply .. | .map .. => .queued
        phase := if r.posted then .silent else .unanswered
        tag := tag, job := job, admission := s.admissions, priority := (s.link n).priority, data := r.data
        cursor := start, cancelMark := false, outcome := none, reserved := !r.posted
        budgetTimer := if r.posted then none else some (s.link n).budget.toNat, holdTimer := none }
    (r.posted = true ∨ (s.link n).budget ≠ 0 →
      exec (r.command n tag) s = .next
        { s.updLink n fun l => { l with slots := l.slots.set k (some fresh) } with
          admissions := s.admissions + 1 }.settle) ∧
    (r.posted = false → (s.link n).budget = 0 →
      exec (r.command n tag) s = .next
        { s.updLink n fun l =>
            { l with
              slots := l.slots.set k (some { fresh with phase := .deferred, reserved := false, budgetTimer := none })
              replies := l.replies ++ [Reply.deferred tag] } with
          admissions := s.admissions + 1 }.settle)

/-- What an admission sets off: a direct request that nothing holds back is started by an idle port in the event of its
admission, and a block operation by an IDLE engine, its first stride by an idle port (R62, R69, R85, R86, R91). -/
def Obligations.AdmittedRequestStartsAtOnce : Prop :=
  ∀ (s : State) (n : LinkId) (tag : Tag) (k : SlotIdx) (r : DataRequest) (job : Job Operand),
    s.serves n = true → r.sendable = true → s.mapOverlaps r.job = false →
    (∀ j sl, s.slot ⟨n, j⟩ = some sl → sl.tag ≠ tag) →
    s.slot ⟨n, k⟩ = none → (∀ j, j < k → s.slot ⟨n, j⟩ ≠ none) → s.translateJob n r.job = .ok job →
    s.clearOfClaims ⟨n, k⟩ job.claims = true →
    (∀ j sl, s.slot ⟨n, j⟩ = some sl → ¬ (sl.state = .waiting ∧ sl.phase = .silent)) → s.port = .idle →
    (job.isBlock = false →
      ∃ t, exec (r.command n tag) s = .next t ∧ t.marker = .direct ∧
        t.port = .direct { owner := ⟨n, k⟩, live := true, job := job, data := r.data }) ∧
    (job.isBlock = true → s.engineBusy = false →
      ∃ t sl, exec (r.command n tag) s = .next t ∧ t.slot ⟨n, k⟩ = some sl ∧ sl.state = .running ∧ sl.job = job ∧
        sl.cursor = job.startCursor ∧ t.marker = .engine ∧
        t.port = .stride { owner := ⟨n, k⟩, start := job.startCursor.next, size := min 16 job.count })

/-- CLAIM: of a HELD slot, ANSWER with the held status and words and the slot FREE; of another slot, PENDING and nothing else;
of no slot, NOTAG (R22). CANCEL: of a WAITING, QUEUED or SUSPENDED slot, the outcome CANCELLED with the words done, and for
FOLD the accumulator, handled by phase; of a RUNNING slot, its mark; of a HELD slot, FREE with nothing reported; and OK behind
any ANSWER of the target; of no slot, NOTAG (R24 to R27, R109). -/
def Obligations.ClaimAndCancel : Prop :=
  ∀ (s : State) (n : LinkId) (tag : Tag), s.serves n = true →
    let claim := exec (.claim n { flags := 0, tag := tag, length := 0 } []) s
    let cancel := exec (.cancel n { flags := 0, tag := tag, length := 0 } []) s
    ((∀ k sl, s.slot ⟨n, k⟩ = some sl → sl.tag ≠ tag) →
      claim = .next (s.placeReply n (.answer .noTag tag [])).arbitrate ∧
      cancel = .next (s.placeReply n (.answer .noTag tag [])).arbitrate) ∧
    ∀ k sl, s.slot ⟨n, k⟩ = some sl → sl.tag = tag → (∀ j sl', s.slot ⟨n, j⟩ = some sl' → sl'.tag = tag → j = k) →
      (∀ o, sl.state = .held → sl.outcome = some o →
        claim = .next (s.updLink n fun l =>
          { l with slots := l.slots.set k none, replies := l.replies ++ [.answer o.status tag o.words] }).settle) ∧
      (sl.state ≠ .held → claim = .next (s.placeReply n (.pending tag)).arbitrate) ∧
      (sl.state = .waiting ∨ sl.state = .queued ∨ sl.state = .suspended →
        cancel = .next ((s.handleOutcome ⟨n, k⟩
          { status := .cancelled
            words := match sl.job with
              | .fold .. => [numWord sl.cursor.done, sl.cursor.acc]
              | _ => [numWord sl.cursor.done] }).placeReply n (.answer .ok tag [])).settle) ∧
      (sl.state = .running →
        cancel = .next ((s.setSlot ⟨n, k⟩ (some { sl with cancelMark := true })).placeReply n (.answer .ok tag [])).settle) ∧
      (sl.state = .held →
        cancel = .next ((s.setSlot ⟨n, k⟩ none).placeReply n (.answer .ok tag [])).settle)

/-- WATCH: NOROOM, then the translation's refusal with a need of READ, else the lowest-numbered free entry, ARMED with missed
count 0, and its id answered (R130). REARM and UNWATCH: NOWATCH unless link n owns the watch; REARM arms it, clears its missed
count and answers what it was, 0 for an ARMED one; UNWATCH frees the entry (R137, R138). -/
def Obligations.WatchRequests : Prop :=
  ∀ (s : State) (n : LinkId) (tag : Tag), s.serves n = true →
    let answers (i : Instr) (t : State) (e : Status) (ws : List Word) : Prop :=
      exec i s = .next (t.placeReply n (.answer e tag ws)).arbitrate
    (∀ seg off c mode self, off < 65536 → 1 ≤ c → c ≤ 65536 →
      let r := Request.watch seg off c mode self
      let i := Instr.watch n (r.header tag) r.payload
      let place := s.translate n .read ⟨octet seg.val, off, c⟩
      ((∀ id, s.watch id ≠ none) → answers i s .noRoom []) ∧
      (∀ id e, s.watch id = none → place = .error e → answers i s e []) ∧
      (∀ id o, s.watch id = none → (∀ j, j < id → s.watch j ≠ none) → place = .ok o →
        answers i (s.setWatch id (some
          { owner := n, segment := seg, offset := off, count := c, first := o.first, mode := mode, selfOn := self
            fired := false, missed := 0 })) .ok [numWord id.val])) ∧
    ∀ id : WatchId,
      let rearm := Instr.rearm n ((Request.rearm id).header tag) [octet id.val]
      let unwatch := Instr.unwatch n ((Request.unwatch id).header tag) [octet id.val]
      ((∀ w, s.watch id = some w → w.owner ≠ n) → answers rearm s .noWatch [] ∧ answers unwatch s .noWatch []) ∧
      ∀ w, s.watch id = some w → w.owner = n →
        (w.fired = true →
          answers rearm (s.setWatch id (some { w with fired := false, missed := 0 })) .ok [numWord w.missed]) ∧
        (w.fired = false → answers rearm s .ok [0]) ∧
        answers unwatch (s.setWatch id none) .ok []

/-- DEFINE: NOTADMIN, BADRANGE, INUSE, else the entry is defined as sent and, if it was defined before, its watches are removed
(R44, R45, R47). DROP: NOTADMIN, NOSEG, INUSE, else the entry is undefined and its watches are removed (R46, R47). The removal
offers WATCHGONE to each owner in ascending watch id. -/
def Obligations.DefineAndDrop : Prop :=
  (∀ (s : State) (n : LinkId) (tag : Tag) (id : SegmentId), s.serves n = true →
    let answers (i : Instr) (t : State) (e : Status) : Prop :=
      exec i s = .next (t.placeReply n (.answer e tag [])).arbitrate
    let inUse : Prop :=
      (∃ i sl, s.slot i = some sl ∧ sl.state ≠ .held ∧ ∃ o ∈ sl.job.operands, o.segment.toNat = id.val) ∨
      ∃ a, s.port = .direct a ∧ ∃ o ∈ a.job.operands, o.segment.toNat = id.val
    (∀ base len rights, base < 65536 → 1 ≤ len → len ≤ 65536 →
      let r := Request.define id base len rights
      let i := Instr.define n (r.header tag) r.payload
      ((s.link n).admin = false → answers i s .notAdmin) ∧
      ((s.link n).admin = true → 65536 < base + len → answers i s .badRange) ∧
      ((s.link n).admin = true → base + len ≤ 65536 → inUse → answers i s .inUse) ∧
      ((s.link n).admin = true → base + len ≤ 65536 → ¬ inUse →
        answers i ((if s.segment id = none then s else s.dropWatchesOn id).setSegment id (some ⟨base, len, rights⟩)) .ok)) ∧
    let i := Instr.drop n ((Request.drop id).header tag) [octet id.val]
    ((s.link n).admin = false → answers i s .notAdmin) ∧
    ((s.link n).admin = true → s.segment id = none → answers i s .noSeg) ∧
    ((s.link n).admin = true → s.segment id ≠ none → inUse → answers i s .inUse) ∧
    ((s.link n).admin = true → s.segment id ≠ none → ¬ inUse →
      answers i ((s.dropWatchesOn id).setSegment id none) .ok)) ∧
  ∀ (s : State) (seg : SegmentId),
    (∀ id, (s.dropWatchesOn seg).watch id = (s.watch id).filter fun w => decide (w.segment ≠ seg)) ∧
    (∀ n, (s.dropWatchesOn seg).link n =
      ((List.finRange 32).filterMap fun id =>
        (s.watch id).bind fun w =>
          if w.owner = n ∧ w.segment = seg then some (Notice.watchgone id seg) else none).foldl
        Link.queueNotice (s.link n)) ∧
    s.dropWatchesOn seg = { s with links := (s.dropWatchesOn seg).links, watches := (s.dropWatchesOn seg).watches }

/-- LINKSET_BUDGET, HOLD, NOTIFY, PRIORITY and ADMIN: without admin a link may set its own budget, hold time and notify
setting and nothing else, NOTADMIN; else the target's parameter takes the value and nothing else changes; removing link 0's
admin is BADARG whoever asks (R179). -/
def Obligations.LinksetSetsOneParameter : Prop :=
  ∀ (s : State) (n target : LinkId) (tag : Tag) (p : Parameter), s.serves n = true →
    let answers (t : State) (e : Status) : Prop :=
      exec (p.command n tag target) s = .next (t.placeReply n (.answer e tag [])).arbitrate
    let allowed : Prop := (s.link n).admin = true ∨ target = n ∧ ∃ v b, p = .budget v ∨ p = .hold v ∨ p = .notify b
    (p = .admin false → target = 0 → answers s .badArg) ∧
    (¬ (p = .admin false ∧ target = 0) → ¬ allowed → answers s .notAdmin) ∧
    (¬ (p = .admin false ∧ target = 0) → allowed →
      answers (s.updLink target fun l => match p with
        | .budget v => { l with budget := v }
        | .hold v => { l with hold := v }
        | .notify b => { l with notify := b }
        | .priority v => { l with priority := v }
        | .admin b => { l with admin := b }) .ok)

/-- QUERY_PART, LINK, SLOTS, SEGMENT and WATCHES: the words of R182, R183 and R144 are answered, with their codes for kinds,
slot states, phases, rights, watch modes and settings, and nothing changes; another link's LINK without admin is NOTADMIN
(R44, R130, R172, R181). -/
def Obligations.QueriesAnswer : Prop :=
  ∀ (s : State) (n : LinkId) (tag : Tag), s.serves n = true →
    let answers (q : Selector) (e : Status) (ws : List Word) : Prop :=
      exec (q.command n tag) s = .next (s.placeReply n (.answer e tag ws)).arbitrate
    let kind : DataKind → Octet := fun k => match k with
      | .read => 0x10
      | .write => 0x11
      | .exchange => 0x12
      | .copy => 0x20
      | .find => 0x21
      | .fold => 0x22
      | .apply => 0x23
      | .map => 0x24
    let state : SlotState → Octet := fun x => match x with
      | .waiting => 1
      | .queued => 2
      | .running => 3
      | .suspended => 4
      | .stopping => 5
      | .held => 6
    let phase : Phase → Octet := fun x => match x with
      | .unanswered => 0
      | .deferred => 1
      | .silent => 2
    let right : Right → Octet := fun x => match x with
      | .none => 0
      | .read => 1
      | .write => 2
    let mode : WatchMode → Nat := fun x => match x with
      | .write => 0
      | .change => 1
    let num (k : Nat) : Word := BitVec.ofNat 32 k
    answers .part .ok [0x02C5, 0x0404, 1, 65536, 8, 64, 32, num s.faults] ∧
    (∀ m, m ≠ n → (s.link n).admin = false → answers (.link m) .notAdmin []) ∧
    (∀ m c, m = n ∨ (s.link n).admin = true →
      (s.link m).status = .opened ∧ c = 0 ∨ (∃ t, (s.link m).status = .awaiting t) ∧ c = 1 ∨
        (∃ x, (s.link m).status = .resetting x) ∧ c = 2 →
      answers (.link m) .ok
        [num m.val, c, num (s.link m).budget.toNat, num (s.link m).hold.toNat,
         if (s.link m).notify then 1 else 0, num (s.link m).priority.val, if (s.link m).admin then 1 else 0,
         num (s.link m).badFrames, num (s.link m).lost, num (s.link m).dropped]) ∧
    (∃ slots : List Slot, slots.Perm ((List.finRange 8).filterMap fun k => s.slot ⟨n, k⟩) ∧
      slots.Pairwise (fun a b => a.admission ≤ b.admission) ∧
      answers .slots .ok (slots.flatMap fun sl =>
        [sl.tag ++ kind sl.job.kind ++ state sl.state ++ phase sl.phase, num sl.cursor.done])) ∧
    (∀ id, s.segment id = none → answers (.segment id) .ok [0, 0, 0, 0]) ∧
    (∀ id g, s.segment id = some g → answers (.segment id) .ok
      [1, num g.base, num g.length,
       right (g.right 0) ++ right (g.right 1) ++ right (g.right 2) ++ right (g.right 3)]) ∧
    answers .watches .ok ((List.finRange 32).flatMap fun id =>
      match s.watch id with
      | some w =>
        if w.owner = n then
          [BitVec.ofNat 8 id.val ++ BitVec.ofNat 8 w.segment.val ++
             BitVec.ofNat 8 (mode w.mode + (if w.selfOn then 2 else 0) + (if w.fired then 4 else 0)) ++ BitVec.ofNat 8 w.missed,
           BitVec.ofNat 16 w.offset ++ BitVec.ofNat 16 (w.count - 1)]
        else []
      | none => [])

/-! ### Resets -/

/-- LINKRESET and RESTART: refused NOTADMIN, or BUSY for a link that is RESETTING; else accepted. Each link reset is
RESETTING, its slots go by R30 and R102, its lists keep only the frame in transmission, its counts are 0; its watches go with
no notice; a stride asked for is withdrawn; a direct access of it loses its slot; and nothing else changes but the requester,
AWAITING when it reset another link (R140, R141, R158, R184, R187). Completion follows in the event when no slot is STOPPING.
-/
def Obligations.ResetsAreAccepted : Prop :=
  ∀ (s : State) (n : LinkId) (tag : Tag), s.serves n = true →
    let after (s : State) (targets : LinkId → Bool) (cause : ResetCause) (x : State) : Prop :=
      (∀ m, targets m = false → x.link m = s.link m) ∧
      (∀ m, targets m = true → x.link m = { s.link m with
        status := .resetting cause, slots := (x.link m).slots
        replies := if (s.link m).transmitter = .reply then (s.link m).replies.take 1 else []
        notices := if (s.link m).transmitter = .notice then (s.link m).notices.take 1 else []
        badFrames := 0, lost := 0, dropped := 0, streak := 0 }) ∧
      (∀ m k, targets m = true → x.slot ⟨m, k⟩ = (s.slot ⟨m, k⟩).bind fun sl =>
        if sl.state = .running ∧ s.strideInProgress ⟨m, k⟩ = true then
          some { sl with state := .stopping, reserved := false, budgetTimer := none, holdTimer := none }
        else if sl.state = .stopping then some sl else none) ∧
      (∀ id, x.watch id = (s.watch id).filter fun w => !targets w.owner) ∧
      x.stride = (s.stride.filter fun r => !targets r.owner.link) ∧
      (∀ a, s.port = .direct a → x.port = .direct { a with live := a.live && !targets a.owner.link }) ∧
      ((∀ a, s.port ≠ .direct a) → x.port = s.port) ∧
      x = { s with links := x.links, watches := x.watches, stride := x.stride, port := x.port }
    (∀ t : LinkId,
      let i := Instr.linkreset n ((Request.linkreset t).header tag) [octet t.val]
      (t ≠ n → (s.link n).admin = false → exec i s = .next (s.placeReply n (.answer .notAdmin tag [])).arbitrate) ∧
      (t = n ∨ (s.link n).admin = true → (s.link t).isResetting = true →
        exec i s = .next (s.placeReply n (.answer .busy tag [])).arbitrate) ∧
      (t = n ∨ (s.link n).admin = true → (s.link t).isResetting = false →
        ∃ x, exec i s = .next x.settle ∧
          after (if t = n then s else s.updLink n fun l => { l with status := .awaiting t })
            (fun m => decide (m = t)) (.linkreset n tag) x)) ∧
    let i := Instr.restart n (Request.restart.header tag) []
    ((s.link n).admin = false → exec i s = .next (s.placeReply n (.answer .notAdmin tag [])).arbitrate) ∧
    ((s.link n).admin = true → ∃ x, exec i s = .next x.settle ∧ after s (fun _ => true) (.restart n) x)

/-- A LINKRESET completes when no slot of its link is STOPPING: the Inbound Buffer is emptied, the link is OPEN, ANSWER OK
goes to the requester, if it still awaits this reset, which is then OPEN, and RESTARTED with cause LINKRESET is queued to the
reset link (R185, R186). A RESTART completes when no slot of the part is: every Inbound Buffer is emptied, the admission count
is 0, the marker ENGINE, every link OPEN with RESTARTED queued (R188). While a RESTART is in progress no LINKRESET completes
by itself (R187). What follows in an event: resets complete (LINKRESETs in ascending link number), an IDLE engine dispatches,
an idle port chooses, the intakes take one frame each in ascending link number, each take followed by the same, and the
arbiters choose: that this is the order is the model's choice (log 11, log 12, log 27). -/
def Obligations.ResetsComplete : Prop :=
  (∀ (s : State) (t n : LinkId) (tag : Tag), (s.link t).status = .resetting (.linkreset n tag) →
    (s.link t).notices.length < 16 →
    ((∀ k sl, s.slot ⟨t, k⟩ = some sl → sl.state ≠ .stopping) →
      (∀ m, (s.finishLinkreset t).link m =
        if m = t then
          { s.link t with
            inbox := [], status := .opened, notices := (s.link t).notices ++ [.restarted .linkreset n]
            replies := if n = t then (s.link t).replies ++ [.answer .ok tag []] else (s.link t).replies }
        else if m = n ∧ (s.link n).status = .awaiting t then
          { s.link n with status := .opened, replies := (s.link n).replies ++ [.answer .ok tag []] }
        else s.link m) ∧
      s.finishLinkreset t = { s with links := (s.finishLinkreset t).links }) ∧
    ((∃ k sl, s.slot ⟨t, k⟩ = some sl ∧ sl.state = .stopping) → s.finishLinkreset t = s)) ∧
  (∀ (s : State) (n : LinkId), s.restartInProgress = some n →
    (∀ m, (s.link m).notices.length < 16) →
    ((∀ i sl, s.slot i = some sl → sl.state ≠ .stopping) →
      (∀ m, s.completeResets.link m =
        { s.link m with
          inbox := [], status := .opened, notices := (s.link m).notices ++ [.restarted .restart n] }) ∧
      s.completeResets = { s with links := s.completeResets.links, admissions := 0, marker := .engine }) ∧
    ((∃ i sl, s.slot i = some sl ∧ sl.state = .stopping) → s.completeResets = s)) ∧
  (∀ s : State, s.restartInProgress = none →
    s.completeResets = (((s.finishLinkreset 0).finishLinkreset 1).finishLinkreset 2).finishLinkreset 3) ∧
  ∀ s : State, s.settle = ((((s.completeResets.dispatch.portChoose.intake 0).intake 1).intake 2).intake 3).arbitrate

/-! ### Invariants, frames, isolation -/

/-- What follows in an event, where no frame waits, touches no word of the Store, no segment, no watch, no link parameter, no
fault, bad-frame or dropped count, no slot but to set one RUNNING, and no command (R82 to R91, R155, R185, R188; the order is
log 11). -/
def Obligations.SettlingLeavesTheRest : Prop :=
  ∀ s : State, s.inboxesEmpty = true →
    (∀ n, s.settle.link n = { s.link n with
      status := (s.settle.link n).status, slots := (s.settle.link n).slots, replies := (s.settle.link n).replies
      notices := (s.settle.link n).notices, lost := (s.settle.link n).lost
      transmitter := (s.settle.link n).transmitter, outLine := (s.settle.link n).outLine
      streak := (s.settle.link n).streak }) ∧
    (∀ i, s.settle.slot i = s.slot i ∨
      ∃ sl, s.slot i = some sl ∧ (sl.state = .queued ∨ sl.state = .suspended) ∧
        s.settle.slot i = some { sl with state := .running }) ∧
    s.settle = { s with
      links := s.settle.links, admissions := s.settle.admissions, port := s.settle.port, marker := s.settle.marker
      stride := s.settle.stride }

/-- Every step keeps the Store's one form: addresses rising and below 65,536, no entry that an unlisted address reads as (R32,
R38). -/
def Obligations.StoreFormIsKept : Prop :=
  ∀ s t : State, s.store.wf = true → step s = .next t → t.store.wf = true

/-- Every step keeps the bounds of queues, buffers and counts (R36, R129, R151, R156, R166, R178). -/
def Obligations.BoundsAreKept : Prop :=
  ∀ s t : State, s.bounded = true → step s = .next t → t.bounded = true

/-- Every step keeps R54: claims that different slots hold never conflict. -/
def Obligations.ClaimsNeverConflict : Prop :=
  ∀ s t : State, s.claimsCompatible = true → step s = .next t → t.claimsCompatible = true

/-- Every step keeps tags distinct within a link, and admission numbers distinct and below the count (R3, R4), and keeps
slots, engine, port, resets in progress, Reply Lists and lines in agreement: the records R5 and R6 allow, one slot RUNNING or
STOPPING at most with one stride outstanding for it, the form R30, R180 and R187 give a reset, 12 places in a Reply List, and
OFRn high only in a transmission (R66, R82, R90, R145 to R147, R158, R160, R168). That a line OFRn is low, high, or low in the
gap after a frame, and which of these go with a transmission, is log 28. -/
def Obligations.RecordsStayConsistent : Prop :=
  ∀ s t : State, s.numbersDistinct = true → s.consistent = true → step s = .next t →
    t.numbersDistinct = true ∧ t.consistent = true

/-- The state after reset has every invariant, and nothing left over (R38, R41). -/
def Obligations.ResetHasTheInvariants : Prop :=
  State.reset.store.wf = true ∧ State.reset.bounded = true ∧ State.reset.claimsCompatible = true ∧
    State.reset.numbersDistinct = true ∧ State.reset.consistent = true ∧ State.reset.calm = true

/-- A link without admin cannot disturb the others: a frame of its own changes no word of the Store, no segment, no watch of
another owner, and of another link nothing but which frame it sends and whether a waiting operation of it runs (R42, R44, R46,
R138, R143, R179, R184, R187). -/
def Obligations.LinksWithoutAdminAreContained : Prop :=
  ∀ (s t : State) (n : LinkId) (f : Frame), s.serves n = true → (s.link n).admin = false → f.payload.length ≤ 260 →
    exec (Instr.ofFrame n f) s = .next t →
    t.store = s.store ∧ t.segments = s.segments ∧ t.faults = s.faults ∧
    (∀ id w, s.watch id = some w → w.owner ≠ n → t.watch id = some w) ∧
    (∀ id, s.watch id = none → ∀ w, t.watch id = some w → w.owner = n) ∧
    (∀ m, m ≠ n → t.link m = { s.link m with
      slots := (t.link m).slots, transmitter := (t.link m).transmitter, outLine := (t.link m).outLine
      streak := (t.link m).streak }) ∧
    ∀ m k, m ≠ n → t.slot ⟨m, k⟩ = s.slot ⟨m, k⟩ ∨
      ∃ sl, s.slot ⟨m, k⟩ = some sl ∧ (sl.state = .queued ∨ sl.state = .suspended) ∧
        t.slot ⟨m, k⟩ = some { sl with state := .running }
end

