-- ==== Sys2Proof/Laws/Store.lean ====
section
/-! SUPPORT. The laws of the Store: reading after an update, and that every update keeps the one form. -/

namespace Sys2Proof.Machine

/-! ### Reading after `put` -/

/-- In a list in the one form from `low` on, no address below `low` is listed. -/
theorem Store.at_of_lt : ∀ {st : Store} {low a : Nat}, st.wfFrom low = true → a < low → st.at a = clearedWord
  | [], _, _, _, _ => rfl
  | (k, w) :: rest, low, a, h, ha => by
    simp only [Store.wfFrom, Bool.and_eq_true, decide_eq_true_eq] at h
    have hk : k ≠ a := by omega
    simp only [Store.at, hk, if_false]
    exact Store.at_of_lt h.2 (by omega)

/-- A word put elsewhere leaves this one. -/
theorem Store.at_put_ne : ∀ (st : Store) {a b : Nat} (w : StoreWord), b ≠ a → (st.put a w).at b = st.at b
  | [], a, b, w, h => by
    unfold Store.put
    split
    · rfl
    · simp [Store.at, Ne.symm h]
  | (k, v) :: rest, a, b, w, h => by
    have ih := Store.at_put_ne rest w h
    have h' : a ≠ b := Ne.symm h
    unfold Store.put
    split
    · split <;> simp [Store.at, h']
    · split
      · rename_i hk
        subst hk
        split <;> simp [Store.at, h']
      · simp [Store.at, ih]

/-- A word put is the word read. -/
theorem Store.at_put_self : ∀ {st : Store} {low : Nat} (a : Nat) (w : StoreWord), st.wfFrom low = true →
    (st.put a w).at a = w
  | [], _, a, w, _ => by
    unfold Store.put
    split <;> simp_all [Store.at]
  | (k, v) :: rest, low, a, w, h => by
    have h0 := h
    simp only [Store.wfFrom, Bool.and_eq_true, decide_eq_true_eq] at h
    unfold Store.put
    split
    · rename_i hlt
      split
      · rename_i hw
        subst hw
        have : k ≠ a := by omega
        simp only [Store.at, this, if_false]
        exact Store.at_of_lt h.2 (by omega)
      · simp [Store.at]
    · split
      · rename_i hk
        subst hk
        split
        · rename_i hw
          subst hw
          exact Store.at_of_lt h.2 (by omega)
        · simp [Store.at]
      · rename_i hk
        have : k ≠ a := fun e => hk e.symm
        simp only [Store.at, this, if_false]
        exact Store.at_put_self a w h.2

/-- Reading after `put`, in a Store in the one form. -/
theorem Store.at_put {st : Store} (h : st.wf = true) (a b : Nat) (w : StoreWord) :
    (st.put a w).at b = if b = a then w else st.at b := by
  split
  · rename_i e
    subst e
    exact Store.at_put_self _ w h
  · rename_i e
    exact Store.at_put_ne st w e

/-- Reading after a write. -/
theorem Store.at_write {st : Store} (h : st.wf = true) (a b : Nat) (v : Word) :
    (st.write a v).at b = if b = a then { contents := v, sound := true } else st.at b :=
  Store.at_put h a b _

theorem Store.at_write_ne (st : Store) {a b : Nat} (v : Word) (h : b ≠ a) : (st.write a v).at b = st.at b :=
  Store.at_put_ne st _ h

/-! ### The one form is kept -/

theorem Store.wfFrom_mono : ∀ {st : Store} {low low' : Nat}, low' ≤ low → st.wfFrom low = true → st.wfFrom low' = true
  | [], _, _, _, _ => rfl
  | (k, w) :: rest, low, low', hl, h => by
    simp only [Store.wfFrom, Bool.and_eq_true, decide_eq_true_eq] at h ⊢
    exact ⟨⟨⟨by omega, h.1.1.2⟩, h.1.2⟩, h.2⟩

theorem Store.wfFrom_put : ∀ {st : Store} {low a : Nat} (w : StoreWord), low ≤ a → a < storeSize → st.wfFrom low = true →
    (st.put a w).wfFrom low = true
  | [], low, a, w, hl, ha, _ => by
    unfold Store.put
    split
    · rfl
    · simp_all [Store.wfFrom]
  | (k, v) :: rest, low, a, w, hl, ha, h => by
    have h0 := h
    simp only [Store.wfFrom, Bool.and_eq_true, decide_eq_true_eq] at h
    obtain ⟨⟨⟨h1, h2⟩, h3⟩, h4⟩ := h
    unfold Store.put
    split
    · split
      · exact h0
      · simp only [Store.wfFrom, Bool.and_eq_true, decide_eq_true_eq]
        exact ⟨⟨⟨hl, ha⟩, by assumption⟩, ⟨⟨by omega, h2⟩, h3⟩, h4⟩
    · split
      · rename_i hk
        subst hk
        split
        · exact Store.wfFrom_mono (by omega) h4
        · simp only [Store.wfFrom, Bool.and_eq_true, decide_eq_true_eq]
          exact ⟨⟨⟨h1, h2⟩, by assumption⟩, h4⟩
      · simp only [Store.wfFrom, Bool.and_eq_true, decide_eq_true_eq]
        exact ⟨⟨⟨h1, h2⟩, h3⟩, Store.wfFrom_put w (by omega) ha h4⟩

/-- `put` keeps the one form. -/
theorem Store.wf_put {st : Store} {a : Nat} (w : StoreWord) (ha : a < storeSize) (h : st.wf = true) :
    (st.put a w).wf = true :=
  Store.wfFrom_put w (Nat.zero_le a) ha h

theorem Store.wf_write {st : Store} {a : Nat} (v : Word) (ha : a < storeSize) (h : st.wf = true) :
    (st.write a v).wf = true :=
  Store.wf_put _ ha h

theorem Store.wf_upset {st : Store} {a : Nat} (c : Word) (ha : a < storeSize) (h : st.wf = true) :
    (st.upset a c).wf = true := by
  unfold Store.upset
  split
  · exact Store.wf_put _ ha h
  · exact h

theorem Store.wf_empty : Store.wf [] = true := rfl

/-- A Store in the one form is known by what its addresses hold. -/
theorem Store.ext_from : ∀ {s t : Store} {low : Nat}, s.wfFrom low = true → t.wfFrom low = true →
    (∀ a, s.at a = t.at a) → s = t
  | [], [], _, _, _, _ => rfl
  | [], (k, w) :: rest, low, _, h, e => by
    have := e k
    simp only [Store.wfFrom, Bool.and_eq_true, decide_eq_true_eq] at h
    simp [Store.at] at this
    exact absurd this.symm h.1.2
  | (k, w) :: rest, [], low, h, _, e => by
    have := e k
    simp only [Store.wfFrom, Bool.and_eq_true, decide_eq_true_eq] at h
    simp [Store.at] at this
    exact absurd this h.1.2
  | (k, w) :: s', (j, v) :: t', low, hs, ht, e => by
    have hs0 := hs
    have ht0 := ht
    simp only [Store.wfFrom, Bool.and_eq_true, decide_eq_true_eq] at hs ht
    have hkj : k = j := by
      rcases Nat.lt_trichotomy k j with hlt | heq | hgt
      · have := e k
        have hj : j ≠ k := by omega
        simp only [Store.at, if_true, hj, if_false] at this
        rw [Store.at_of_lt ht.2 (by omega)] at this
        exact absurd this hs.1.2
      · exact heq
      · have := e j
        have hk : k ≠ j := by omega
        simp only [Store.at, if_true, hk, if_false] at this
        rw [Store.at_of_lt hs.2 (by omega)] at this
        exact absurd this.symm ht.1.2
    subst hkj
    have hw : w = v := by simpa [Store.at] using e k
    subst hw
    have hrest : s' = t' := Store.ext_from hs.2 ht.2 (by
      intro a
      by_cases ha : k = a
      · subst ha
        rw [Store.at_of_lt hs.2 (by omega), Store.at_of_lt ht.2 (by omega)]
      · simpa [Store.at, ha] using e a)
    rw [hrest]

theorem Store.ext {s t : Store} (hs : s.wf = true) (ht : t.wf = true) (e : ∀ a, s.at a = t.at a) : s = t :=
  Store.ext_from hs ht e

end Sys2Proof.Machine
end

