-- ==== Sys2Proof/Laws/Access.lean ====
section
/-! SUPPORT. What direct accesses and strides do, said once for each operation. -/

namespace Sys2Proof.Machine

/-! ### Runs of words -/

theorem Store.read_sound {st : Store} {a : Nat} (h : (st.at a).sound = true) : st.read a = some (st.at a).contents := by
  simp [Store.read, h]

theorem Store.read_damaged {st : Store} {a : Nat} (h : (st.at a).sound = false) : st.read a = none := by
  simp [Store.read, h]

/-- A run of sound words is read whole. -/
theorem Store.readRun_ok (st : Store) : ∀ (n a : Nat), (∀ i, i < n → (st.at (a + i)).sound = true) →
    st.readRun a n = .ok ((List.range n).map fun i => (st.at (a + i)).contents)
  | 0, _, _ => rfl
  | n + 1, a, h => by
    have h0 := h 0 (by omega)
    have ih := Store.readRun_ok st n (a + 1) (fun i hi => by
      have := h (i + 1) (by omega); rwa [Nat.add_comm i 1, ← Nat.add_assoc] at this)
    simp only [Store.readRun, Store.read_sound (by simpa using h0), ih, List.range_succ_eq_map, List.map_cons,
      List.map_map]
    simp [Function.comp_def, Nat.add_comm, Nat.add_left_comm]

/-- A run stops at its first damaged word. -/
theorem Store.readRun_error (st : Store) : ∀ (n a k : Nat), k < n → (∀ i, i < k → (st.at (a + i)).sound = true) →
    (st.at (a + k)).sound = false → st.readRun a n = .error (a + k)
  | n + 1, a, 0, _, _, h => by
    simp only [Store.readRun, Store.read_damaged (by simpa using h)]
    simp
  | n + 1, a, k + 1, hk, hs, h => by
    have h0 := hs 0 (by omega)
    have ih := Store.readRun_error st n (a + 1) k (by omega) (fun i hi => by
      have := hs (i + 1) (by omega); rwa [Nat.add_comm i 1, ← Nat.add_assoc] at this)
      (by rwa [Nat.add_comm k 1, ← Nat.add_assoc] at h)
    simp only [Store.readRun, Store.read_sound (by simpa using h0), ih]
    congr 1; omega

theorem Store.wf_writeRun : ∀ (ws : List Word) {st : Store} {a : Nat}, a + ws.length ≤ storeSize → st.wf = true →
    (st.writeRun a ws).1.wf = true
  | [], _, _, _, h => h
  | w :: ws, st, a, ha, h => by
    simp only [List.length_cons] at ha
    exact Store.wf_writeRun ws (by omega) (Store.wf_write w (by omega) h)

/-- A run written: its words, and every other word as it was. -/
theorem Store.at_writeRun : ∀ (ws : List Word) {st : Store} {a : Nat} (b : Nat), a + ws.length ≤ storeSize → st.wf = true →
    (st.writeRun a ws).1.at b =
      if a ≤ b then (match ws[b - a]? with | some w => { contents := w, sound := true } | none => st.at b) else st.at b
  | [], _, _, _, _, _ => by simp [Store.writeRun]
  | w :: ws, st, a, b, ha, h => by
    simp only [List.length_cons] at ha
    have hw := Store.wf_write (a := a) w (by omega) h
    have ih := Store.at_writeRun ws (a := a + 1) b (by omega) hw
    simp only [Store.writeRun] at ih ⊢
    rw [ih, Store.at_write h]
    by_cases hba : b = a
    · subst hba; simp
    · by_cases hle : a ≤ b
      · have h1 : a + 1 ≤ b := by omega
        obtain ⟨d, rfl⟩ : ∃ d, b = a + 1 + d := ⟨b - (a + 1), by omega⟩
        have e1 : a + 1 + d - (a + 1) = d := by omega
        have e2 : a + 1 + d - a = d + 1 := by omega
        simp [hle, hba, e1, e2]
      · have h1 : ¬ a + 1 ≤ b := by omega
        simp [hle, h1, hba]

/-- The changed marks of a run, each from the word as it stood before the access. -/
theorem Store.marks_writeRun : ∀ (ws : List Word) (st : Store) (a : Nat),
    (st.writeRun a ws).2 = ws.mapIdx fun i w => st.changes (a + i) w
  | [], _, _ => rfl
  | w :: ws, st, a => by
    have ih := Store.marks_writeRun ws (st.write a w) (a + 1)
    simp only [Store.writeRun, ih, List.mapIdx_cons, Nat.add_zero, List.cons.injEq, true_and]
    apply List.ext_getElem (by simp)
    intro i h1 h2
    simp only [List.getElem_mapIdx]
    have hne : a + (i + 1) ≠ a := by omega
    have e : a + 1 + i = a + (i + 1) := by omega
    simp only [Store.changes, e, Store.at_write_ne st w hne]

/-! ### Strides -/

theorem Direction.after_upward (k : Nat) : Direction.upward.after k = k + 1 := rfl

theorem Direction.after_downward (k : Nat) : Direction.downward.after k = k - 1 := rfl

/-- One position of a stride. -/
theorem Job.positions_succ (j : Job Operand) (d : Direction) (n k : Nat) (st : Store) (acc : Word) :
    j.positions d (n + 1) k st acc =
      match j.position st k acc with
      | .finished st' acc' mark =>
        { j.positions d n (d.after k) st' acc' with
          done := (j.positions d n (d.after k) st' acc').done + 1
          marks := mark.toList ++ (j.positions d n (d.after k) st' acc').marks }
      | .stopped f => { store := st, acc := acc, done := 0, marks := [], fault := some f, found := none }
      | .matched w => { store := st, acc := acc, done := 1, marks := [], fault := none, found := some w } := rfl

/-- A stride does no more positions than it covers. -/
theorem Job.positions_done_le (j : Job Operand) (d : Direction) : ∀ (n k : Nat) (st : Store) (acc : Word),
    (j.positions d n k st acc).done ≤ n
  | 0, _, _, _ => Nat.le_refl 0
  | n + 1, k, st, acc => by
    rw [Job.positions_succ]
    split
    · exact Nat.succ_le_succ (Job.positions_done_le j d n _ _ _)
    · exact Nat.zero_le _
    · exact Nat.succ_le_succ (Nat.zero_le _)

/-- A stride that neither stopped nor matched did every position. -/
theorem Job.positions_done (j : Job Operand) (d : Direction) : ∀ (n k : Nat) (st : Store) (acc : Word),
    (j.positions d n k st acc).fault = none → (j.positions d n k st acc).found = none →
    (j.positions d n k st acc).done = n
  | 0, _, _, _, _, _ => rfl
  | n + 1, k, st, acc, hf, hm => by
    rw [Job.positions_succ] at hf hm ⊢
    split at hf <;> simp_all
    exact Job.positions_done j d n _ _ _ hf hm

/-- Strides compose: positions taken in one go are positions taken in two. -/
theorem Job.positions_add (j : Job Operand) (d : Direction) (n : Nat) : ∀ (m k : Nat) (st : Store) (acc : Word),
    (j.positions d m k st acc).fault = none → (j.positions d m k st acc).found = none →
    j.positions d (m + n) k st acc =
      { j.positions d n (d.after^[m] k) (j.positions d m k st acc).store (j.positions d m k st acc).acc with
        done := m + (j.positions d n (d.after^[m] k) (j.positions d m k st acc).store (j.positions d m k st acc).acc).done
        marks := (j.positions d m k st acc).marks ++
          (j.positions d n (d.after^[m] k) (j.positions d m k st acc).store (j.positions d m k st acc).acc).marks }
  | 0, k, st, acc, _, _ => by simp [Job.positions]
  | m + 1, k, st, acc, hf, hm => by
    rw [show m + 1 + n = (m + n) + 1 by omega, Job.positions_succ, Job.positions_succ]
    rw [Job.positions_succ] at hf hm
    split at hf
    · rename_i st' acc' mark hp
      simp only [hp] at hf hm ⊢
      have ih := Job.positions_add j d n m (d.after k) st' acc' hf hm
      simp only [ih, Function.iterate_succ, Function.comp_apply]
      simp; omega
    · simp at hf
    · simp_all

end Sys2Proof.Machine
end

