-- ==== Sys2Proof/Laws/State.lean ====
section
/-! SUPPORT. What each update of State leaves: one lemma for each field an update does not write. -/

namespace Sys2Proof.Machine

variable (s : State)

@[simp] theorem State.setLink_rstn (n : LinkId) (l : Link) : (s.setLink n l).rstn = s.rstn := rfl
@[simp] theorem State.setLink_opened (n : LinkId) (l : Link) : (s.setLink n l).opened = s.opened := rfl
@[simp] theorem State.setLink_admissions (n : LinkId) (l : Link) : (s.setLink n l).admissions = s.admissions := rfl
@[simp] theorem State.setLink_segments (n : LinkId) (l : Link) : (s.setLink n l).segments = s.segments := rfl
@[simp] theorem State.setLink_watches (n : LinkId) (l : Link) : (s.setLink n l).watches = s.watches := rfl
@[simp] theorem State.setLink_store (n : LinkId) (l : Link) : (s.setLink n l).store = s.store := rfl
@[simp] theorem State.setLink_faults (n : LinkId) (l : Link) : (s.setLink n l).faults = s.faults := rfl
@[simp] theorem State.setLink_port (n : LinkId) (l : Link) : (s.setLink n l).port = s.port := rfl
@[simp] theorem State.setLink_marker (n : LinkId) (l : Link) : (s.setLink n l).marker = s.marker := rfl
@[simp] theorem State.setLink_stride (n : LinkId) (l : Link) : (s.setLink n l).stride = s.stride := rfl
@[simp] theorem State.setLink_freeCount (n : LinkId) (l : Link) : (s.setLink n l).freeCount = s.freeCount := rfl
@[simp] theorem State.setLink_pending (n : LinkId) (l : Link) : (s.setLink n l).pending = s.pending := rfl

@[simp] theorem State.updLink_rstn (n : LinkId) (f : Link → Link) : (s.updLink n f).rstn = s.rstn := rfl
@[simp] theorem State.updLink_opened (n : LinkId) (f : Link → Link) : (s.updLink n f).opened = s.opened := rfl
@[simp] theorem State.updLink_admissions (n : LinkId) (f : Link → Link) : (s.updLink n f).admissions = s.admissions := rfl
@[simp] theorem State.updLink_segments (n : LinkId) (f : Link → Link) : (s.updLink n f).segments = s.segments := rfl
@[simp] theorem State.updLink_watches (n : LinkId) (f : Link → Link) : (s.updLink n f).watches = s.watches := rfl
@[simp] theorem State.updLink_store (n : LinkId) (f : Link → Link) : (s.updLink n f).store = s.store := rfl
@[simp] theorem State.updLink_faults (n : LinkId) (f : Link → Link) : (s.updLink n f).faults = s.faults := rfl
@[simp] theorem State.updLink_port (n : LinkId) (f : Link → Link) : (s.updLink n f).port = s.port := rfl
@[simp] theorem State.updLink_marker (n : LinkId) (f : Link → Link) : (s.updLink n f).marker = s.marker := rfl
@[simp] theorem State.updLink_stride (n : LinkId) (f : Link → Link) : (s.updLink n f).stride = s.stride := rfl
@[simp] theorem State.updLink_freeCount (n : LinkId) (f : Link → Link) : (s.updLink n f).freeCount = s.freeCount := rfl
@[simp] theorem State.updLink_pending (n : LinkId) (f : Link → Link) : (s.updLink n f).pending = s.pending := rfl

@[simp] theorem State.mapLinks_rstn (f : LinkId → Link → Link) : (s.mapLinks f).rstn = s.rstn := rfl
@[simp] theorem State.mapLinks_opened (f : LinkId → Link → Link) : (s.mapLinks f).opened = s.opened := rfl
@[simp] theorem State.mapLinks_admissions (f : LinkId → Link → Link) : (s.mapLinks f).admissions = s.admissions := rfl
@[simp] theorem State.mapLinks_segments (f : LinkId → Link → Link) : (s.mapLinks f).segments = s.segments := rfl
@[simp] theorem State.mapLinks_watches (f : LinkId → Link → Link) : (s.mapLinks f).watches = s.watches := rfl
@[simp] theorem State.mapLinks_store (f : LinkId → Link → Link) : (s.mapLinks f).store = s.store := rfl
@[simp] theorem State.mapLinks_faults (f : LinkId → Link → Link) : (s.mapLinks f).faults = s.faults := rfl
@[simp] theorem State.mapLinks_port (f : LinkId → Link → Link) : (s.mapLinks f).port = s.port := rfl
@[simp] theorem State.mapLinks_marker (f : LinkId → Link → Link) : (s.mapLinks f).marker = s.marker := rfl
@[simp] theorem State.mapLinks_stride (f : LinkId → Link → Link) : (s.mapLinks f).stride = s.stride := rfl
@[simp] theorem State.mapLinks_freeCount (f : LinkId → Link → Link) : (s.mapLinks f).freeCount = s.freeCount := rfl
@[simp] theorem State.mapLinks_pending (f : LinkId → Link → Link) : (s.mapLinks f).pending = s.pending := rfl

@[simp] theorem State.setSlot_rstn (i : SlotId) (v : Option Slot) : (s.setSlot i v).rstn = s.rstn := rfl
@[simp] theorem State.setSlot_opened (i : SlotId) (v : Option Slot) : (s.setSlot i v).opened = s.opened := rfl
@[simp] theorem State.setSlot_admissions (i : SlotId) (v : Option Slot) : (s.setSlot i v).admissions = s.admissions := rfl
@[simp] theorem State.setSlot_segments (i : SlotId) (v : Option Slot) : (s.setSlot i v).segments = s.segments := rfl
@[simp] theorem State.setSlot_watches (i : SlotId) (v : Option Slot) : (s.setSlot i v).watches = s.watches := rfl
@[simp] theorem State.setSlot_store (i : SlotId) (v : Option Slot) : (s.setSlot i v).store = s.store := rfl
@[simp] theorem State.setSlot_faults (i : SlotId) (v : Option Slot) : (s.setSlot i v).faults = s.faults := rfl
@[simp] theorem State.setSlot_port (i : SlotId) (v : Option Slot) : (s.setSlot i v).port = s.port := rfl
@[simp] theorem State.setSlot_marker (i : SlotId) (v : Option Slot) : (s.setSlot i v).marker = s.marker := rfl
@[simp] theorem State.setSlot_stride (i : SlotId) (v : Option Slot) : (s.setSlot i v).stride = s.stride := rfl
@[simp] theorem State.setSlot_freeCount (i : SlotId) (v : Option Slot) : (s.setSlot i v).freeCount = s.freeCount := rfl
@[simp] theorem State.setSlot_pending (i : SlotId) (v : Option Slot) : (s.setSlot i v).pending = s.pending := rfl

@[simp] theorem State.placeReply_rstn (n : LinkId) (r : Reply) : (s.placeReply n r).rstn = s.rstn := rfl
@[simp] theorem State.placeReply_opened (n : LinkId) (r : Reply) : (s.placeReply n r).opened = s.opened := rfl
@[simp] theorem State.placeReply_admissions (n : LinkId) (r : Reply) : (s.placeReply n r).admissions = s.admissions := rfl
@[simp] theorem State.placeReply_segments (n : LinkId) (r : Reply) : (s.placeReply n r).segments = s.segments := rfl
@[simp] theorem State.placeReply_watches (n : LinkId) (r : Reply) : (s.placeReply n r).watches = s.watches := rfl
@[simp] theorem State.placeReply_store (n : LinkId) (r : Reply) : (s.placeReply n r).store = s.store := rfl
@[simp] theorem State.placeReply_faults (n : LinkId) (r : Reply) : (s.placeReply n r).faults = s.faults := rfl
@[simp] theorem State.placeReply_port (n : LinkId) (r : Reply) : (s.placeReply n r).port = s.port := rfl
@[simp] theorem State.placeReply_marker (n : LinkId) (r : Reply) : (s.placeReply n r).marker = s.marker := rfl
@[simp] theorem State.placeReply_stride (n : LinkId) (r : Reply) : (s.placeReply n r).stride = s.stride := rfl
@[simp] theorem State.placeReply_freeCount (n : LinkId) (r : Reply) : (s.placeReply n r).freeCount = s.freeCount := rfl
@[simp] theorem State.placeReply_pending (n : LinkId) (r : Reply) : (s.placeReply n r).pending = s.pending := rfl

@[simp] theorem State.queueNotice_rstn (n : LinkId) (m : Notice) : (s.queueNotice n m).rstn = s.rstn := rfl
@[simp] theorem State.queueNotice_opened (n : LinkId) (m : Notice) : (s.queueNotice n m).opened = s.opened := rfl
@[simp] theorem State.queueNotice_admissions (n : LinkId) (m : Notice) : (s.queueNotice n m).admissions = s.admissions := rfl
@[simp] theorem State.queueNotice_segments (n : LinkId) (m : Notice) : (s.queueNotice n m).segments = s.segments := rfl
@[simp] theorem State.queueNotice_watches (n : LinkId) (m : Notice) : (s.queueNotice n m).watches = s.watches := rfl
@[simp] theorem State.queueNotice_store (n : LinkId) (m : Notice) : (s.queueNotice n m).store = s.store := rfl
@[simp] theorem State.queueNotice_faults (n : LinkId) (m : Notice) : (s.queueNotice n m).faults = s.faults := rfl
@[simp] theorem State.queueNotice_port (n : LinkId) (m : Notice) : (s.queueNotice n m).port = s.port := rfl
@[simp] theorem State.queueNotice_marker (n : LinkId) (m : Notice) : (s.queueNotice n m).marker = s.marker := rfl
@[simp] theorem State.queueNotice_stride (n : LinkId) (m : Notice) : (s.queueNotice n m).stride = s.stride := rfl
@[simp] theorem State.queueNotice_freeCount (n : LinkId) (m : Notice) : (s.queueNotice n m).freeCount = s.freeCount := rfl
@[simp] theorem State.queueNotice_pending (n : LinkId) (m : Notice) : (s.queueNotice n m).pending = s.pending := rfl

@[simp] theorem State.refuse_rstn (n : LinkId) (tag : Tag) (e : Status) : (s.refuse n tag e).rstn = s.rstn := rfl
@[simp] theorem State.refuse_opened (n : LinkId) (tag : Tag) (e : Status) : (s.refuse n tag e).opened = s.opened := rfl
@[simp] theorem State.refuse_admissions (n : LinkId) (tag : Tag) (e : Status) : (s.refuse n tag e).admissions = s.admissions := rfl
@[simp] theorem State.refuse_segments (n : LinkId) (tag : Tag) (e : Status) : (s.refuse n tag e).segments = s.segments := rfl
@[simp] theorem State.refuse_watches (n : LinkId) (tag : Tag) (e : Status) : (s.refuse n tag e).watches = s.watches := rfl
@[simp] theorem State.refuse_store (n : LinkId) (tag : Tag) (e : Status) : (s.refuse n tag e).store = s.store := rfl
@[simp] theorem State.refuse_faults (n : LinkId) (tag : Tag) (e : Status) : (s.refuse n tag e).faults = s.faults := rfl
@[simp] theorem State.refuse_port (n : LinkId) (tag : Tag) (e : Status) : (s.refuse n tag e).port = s.port := rfl
@[simp] theorem State.refuse_marker (n : LinkId) (tag : Tag) (e : Status) : (s.refuse n tag e).marker = s.marker := rfl
@[simp] theorem State.refuse_stride (n : LinkId) (tag : Tag) (e : Status) : (s.refuse n tag e).stride = s.stride := rfl
@[simp] theorem State.refuse_freeCount (n : LinkId) (tag : Tag) (e : Status) : (s.refuse n tag e).freeCount = s.freeCount := rfl
@[simp] theorem State.refuse_pending (n : LinkId) (tag : Tag) (e : Status) : (s.refuse n tag e).pending = s.pending := rfl

@[simp] theorem State.answerOk_rstn (n : LinkId) (tag : Tag) (ws : List Word) : (s.answerOk n tag ws).rstn = s.rstn := rfl
@[simp] theorem State.answerOk_opened (n : LinkId) (tag : Tag) (ws : List Word) : (s.answerOk n tag ws).opened = s.opened := rfl
@[simp] theorem State.answerOk_admissions (n : LinkId) (tag : Tag) (ws : List Word) : (s.answerOk n tag ws).admissions = s.admissions := rfl
@[simp] theorem State.answerOk_segments (n : LinkId) (tag : Tag) (ws : List Word) : (s.answerOk n tag ws).segments = s.segments := rfl
@[simp] theorem State.answerOk_watches (n : LinkId) (tag : Tag) (ws : List Word) : (s.answerOk n tag ws).watches = s.watches := rfl
@[simp] theorem State.answerOk_store (n : LinkId) (tag : Tag) (ws : List Word) : (s.answerOk n tag ws).store = s.store := rfl
@[simp] theorem State.answerOk_faults (n : LinkId) (tag : Tag) (ws : List Word) : (s.answerOk n tag ws).faults = s.faults := rfl
@[simp] theorem State.answerOk_port (n : LinkId) (tag : Tag) (ws : List Word) : (s.answerOk n tag ws).port = s.port := rfl
@[simp] theorem State.answerOk_marker (n : LinkId) (tag : Tag) (ws : List Word) : (s.answerOk n tag ws).marker = s.marker := rfl
@[simp] theorem State.answerOk_stride (n : LinkId) (tag : Tag) (ws : List Word) : (s.answerOk n tag ws).stride = s.stride := rfl
@[simp] theorem State.answerOk_freeCount (n : LinkId) (tag : Tag) (ws : List Word) : (s.answerOk n tag ws).freeCount = s.freeCount := rfl
@[simp] theorem State.answerOk_pending (n : LinkId) (tag : Tag) (ws : List Word) : (s.answerOk n tag ws).pending = s.pending := rfl

@[simp] theorem State.arbitrate_rstn : (s.arbitrate).rstn = s.rstn := rfl
@[simp] theorem State.arbitrate_opened : (s.arbitrate).opened = s.opened := rfl
@[simp] theorem State.arbitrate_admissions : (s.arbitrate).admissions = s.admissions := rfl
@[simp] theorem State.arbitrate_segments : (s.arbitrate).segments = s.segments := rfl
@[simp] theorem State.arbitrate_watches : (s.arbitrate).watches = s.watches := rfl
@[simp] theorem State.arbitrate_store : (s.arbitrate).store = s.store := rfl
@[simp] theorem State.arbitrate_faults : (s.arbitrate).faults = s.faults := rfl
@[simp] theorem State.arbitrate_port : (s.arbitrate).port = s.port := rfl
@[simp] theorem State.arbitrate_marker : (s.arbitrate).marker = s.marker := rfl
@[simp] theorem State.arbitrate_stride : (s.arbitrate).stride = s.stride := rfl
@[simp] theorem State.arbitrate_freeCount : (s.arbitrate).freeCount = s.freeCount := rfl
@[simp] theorem State.arbitrate_pending : (s.arbitrate).pending = s.pending := rfl

@[simp] theorem State.ticks_rstn (k : Nat) : (s.ticks k).rstn = s.rstn := rfl
@[simp] theorem State.ticks_opened (k : Nat) : (s.ticks k).opened = s.opened := rfl
@[simp] theorem State.ticks_admissions (k : Nat) : (s.ticks k).admissions = s.admissions := rfl
@[simp] theorem State.ticks_segments (k : Nat) : (s.ticks k).segments = s.segments := rfl
@[simp] theorem State.ticks_watches (k : Nat) : (s.ticks k).watches = s.watches := rfl
@[simp] theorem State.ticks_store (k : Nat) : (s.ticks k).store = s.store := rfl
@[simp] theorem State.ticks_faults (k : Nat) : (s.ticks k).faults = s.faults := rfl
@[simp] theorem State.ticks_port (k : Nat) : (s.ticks k).port = s.port := rfl
@[simp] theorem State.ticks_marker (k : Nat) : (s.ticks k).marker = s.marker := rfl
@[simp] theorem State.ticks_stride (k : Nat) : (s.ticks k).stride = s.stride := rfl
@[simp] theorem State.ticks_freeCount (k : Nat) : (s.ticks k).freeCount = s.freeCount := rfl
@[simp] theorem State.ticks_pending (k : Nat) : (s.ticks k).pending = s.pending := rfl

@[simp] theorem State.setWatch_rstn (id : WatchId) (w : Option Watch) : (s.setWatch id w).rstn = s.rstn := rfl
@[simp] theorem State.setWatch_opened (id : WatchId) (w : Option Watch) : (s.setWatch id w).opened = s.opened := rfl
@[simp] theorem State.setWatch_links (id : WatchId) (w : Option Watch) : (s.setWatch id w).links = s.links := rfl
@[simp] theorem State.setWatch_admissions (id : WatchId) (w : Option Watch) : (s.setWatch id w).admissions = s.admissions := rfl
@[simp] theorem State.setWatch_segments (id : WatchId) (w : Option Watch) : (s.setWatch id w).segments = s.segments := rfl
@[simp] theorem State.setWatch_store (id : WatchId) (w : Option Watch) : (s.setWatch id w).store = s.store := rfl
@[simp] theorem State.setWatch_faults (id : WatchId) (w : Option Watch) : (s.setWatch id w).faults = s.faults := rfl
@[simp] theorem State.setWatch_port (id : WatchId) (w : Option Watch) : (s.setWatch id w).port = s.port := rfl
@[simp] theorem State.setWatch_marker (id : WatchId) (w : Option Watch) : (s.setWatch id w).marker = s.marker := rfl
@[simp] theorem State.setWatch_stride (id : WatchId) (w : Option Watch) : (s.setWatch id w).stride = s.stride := rfl
@[simp] theorem State.setWatch_freeCount (id : WatchId) (w : Option Watch) : (s.setWatch id w).freeCount = s.freeCount := rfl
@[simp] theorem State.setWatch_pending (id : WatchId) (w : Option Watch) : (s.setWatch id w).pending = s.pending := rfl

@[simp] theorem State.dropWatchesOf_rstn (owners : LinkId → Bool) : (s.dropWatchesOf owners).rstn = s.rstn := by unfold State.dropWatchesOf; rfl
@[simp] theorem State.dropWatchesOf_opened (owners : LinkId → Bool) : (s.dropWatchesOf owners).opened = s.opened := by unfold State.dropWatchesOf; rfl
@[simp] theorem State.dropWatchesOf_links (owners : LinkId → Bool) : (s.dropWatchesOf owners).links = s.links := by unfold State.dropWatchesOf; rfl
@[simp] theorem State.dropWatchesOf_admissions (owners : LinkId → Bool) : (s.dropWatchesOf owners).admissions = s.admissions := by unfold State.dropWatchesOf; rfl
@[simp] theorem State.dropWatchesOf_segments (owners : LinkId → Bool) : (s.dropWatchesOf owners).segments = s.segments := by unfold State.dropWatchesOf; rfl
@[simp] theorem State.dropWatchesOf_store (owners : LinkId → Bool) : (s.dropWatchesOf owners).store = s.store := by unfold State.dropWatchesOf; rfl
@[simp] theorem State.dropWatchesOf_faults (owners : LinkId → Bool) : (s.dropWatchesOf owners).faults = s.faults := by unfold State.dropWatchesOf; rfl
@[simp] theorem State.dropWatchesOf_port (owners : LinkId → Bool) : (s.dropWatchesOf owners).port = s.port := by unfold State.dropWatchesOf; rfl
@[simp] theorem State.dropWatchesOf_marker (owners : LinkId → Bool) : (s.dropWatchesOf owners).marker = s.marker := by unfold State.dropWatchesOf; rfl
@[simp] theorem State.dropWatchesOf_stride (owners : LinkId → Bool) : (s.dropWatchesOf owners).stride = s.stride := by unfold State.dropWatchesOf; rfl
@[simp] theorem State.dropWatchesOf_freeCount (owners : LinkId → Bool) : (s.dropWatchesOf owners).freeCount = s.freeCount := by unfold State.dropWatchesOf; rfl
@[simp] theorem State.dropWatchesOf_pending (owners : LinkId → Bool) : (s.dropWatchesOf owners).pending = s.pending := by unfold State.dropWatchesOf; rfl

@[simp] theorem State.setSegment_rstn (id : SegmentId) (g : Option Segment) : (s.setSegment id g).rstn = s.rstn := rfl
@[simp] theorem State.setSegment_opened (id : SegmentId) (g : Option Segment) : (s.setSegment id g).opened = s.opened := rfl
@[simp] theorem State.setSegment_links (id : SegmentId) (g : Option Segment) : (s.setSegment id g).links = s.links := rfl
@[simp] theorem State.setSegment_admissions (id : SegmentId) (g : Option Segment) : (s.setSegment id g).admissions = s.admissions := rfl
@[simp] theorem State.setSegment_watches (id : SegmentId) (g : Option Segment) : (s.setSegment id g).watches = s.watches := rfl
@[simp] theorem State.setSegment_store (id : SegmentId) (g : Option Segment) : (s.setSegment id g).store = s.store := rfl
@[simp] theorem State.setSegment_faults (id : SegmentId) (g : Option Segment) : (s.setSegment id g).faults = s.faults := rfl
@[simp] theorem State.setSegment_port (id : SegmentId) (g : Option Segment) : (s.setSegment id g).port = s.port := rfl
@[simp] theorem State.setSegment_marker (id : SegmentId) (g : Option Segment) : (s.setSegment id g).marker = s.marker := rfl
@[simp] theorem State.setSegment_stride (id : SegmentId) (g : Option Segment) : (s.setSegment id g).stride = s.stride := rfl
@[simp] theorem State.setSegment_freeCount (id : SegmentId) (g : Option Segment) : (s.setSegment id g).freeCount = s.freeCount := rfl
@[simp] theorem State.setSegment_pending (id : SegmentId) (g : Option Segment) : (s.setSegment id g).pending = s.pending := rfl

@[simp] theorem State.withPending_rstn (rest : List Instr) : (s.withPending rest).rstn = s.rstn := rfl
@[simp] theorem State.withPending_opened (rest : List Instr) : (s.withPending rest).opened = s.opened := rfl
@[simp] theorem State.withPending_links (rest : List Instr) : (s.withPending rest).links = s.links := rfl
@[simp] theorem State.withPending_admissions (rest : List Instr) : (s.withPending rest).admissions = s.admissions := rfl
@[simp] theorem State.withPending_segments (rest : List Instr) : (s.withPending rest).segments = s.segments := rfl
@[simp] theorem State.withPending_watches (rest : List Instr) : (s.withPending rest).watches = s.watches := rfl
@[simp] theorem State.withPending_store (rest : List Instr) : (s.withPending rest).store = s.store := rfl
@[simp] theorem State.withPending_faults (rest : List Instr) : (s.withPending rest).faults = s.faults := rfl
@[simp] theorem State.withPending_port (rest : List Instr) : (s.withPending rest).port = s.port := rfl
@[simp] theorem State.withPending_marker (rest : List Instr) : (s.withPending rest).marker = s.marker := rfl
@[simp] theorem State.withPending_stride (rest : List Instr) : (s.withPending rest).stride = s.stride := rfl
@[simp] theorem State.withPending_freeCount (rest : List Instr) : (s.withPending rest).freeCount = s.freeCount := rfl

@[simp] theorem State.startStride_rstn (r : Stride) : (s.startStride r).rstn = s.rstn := rfl
@[simp] theorem State.startStride_opened (r : Stride) : (s.startStride r).opened = s.opened := rfl
@[simp] theorem State.startStride_links (r : Stride) : (s.startStride r).links = s.links := rfl
@[simp] theorem State.startStride_admissions (r : Stride) : (s.startStride r).admissions = s.admissions := rfl
@[simp] theorem State.startStride_segments (r : Stride) : (s.startStride r).segments = s.segments := rfl
@[simp] theorem State.startStride_watches (r : Stride) : (s.startStride r).watches = s.watches := rfl
@[simp] theorem State.startStride_store (r : Stride) : (s.startStride r).store = s.store := rfl
@[simp] theorem State.startStride_faults (r : Stride) : (s.startStride r).faults = s.faults := rfl
@[simp] theorem State.startStride_freeCount (r : Stride) : (s.startStride r).freeCount = s.freeCount := rfl
@[simp] theorem State.startStride_pending (r : Stride) : (s.startStride r).pending = s.pending := rfl

@[simp] theorem State.startDirect_rstn (i : SlotId) (sl : Slot) : (s.startDirect i sl).rstn = s.rstn := rfl
@[simp] theorem State.startDirect_opened (i : SlotId) (sl : Slot) : (s.startDirect i sl).opened = s.opened := rfl
@[simp] theorem State.startDirect_links (i : SlotId) (sl : Slot) : (s.startDirect i sl).links = s.links := rfl
@[simp] theorem State.startDirect_admissions (i : SlotId) (sl : Slot) : (s.startDirect i sl).admissions = s.admissions := rfl
@[simp] theorem State.startDirect_segments (i : SlotId) (sl : Slot) : (s.startDirect i sl).segments = s.segments := rfl
@[simp] theorem State.startDirect_watches (i : SlotId) (sl : Slot) : (s.startDirect i sl).watches = s.watches := rfl
@[simp] theorem State.startDirect_store (i : SlotId) (sl : Slot) : (s.startDirect i sl).store = s.store := rfl
@[simp] theorem State.startDirect_faults (i : SlotId) (sl : Slot) : (s.startDirect i sl).faults = s.faults := rfl
@[simp] theorem State.startDirect_stride (i : SlotId) (sl : Slot) : (s.startDirect i sl).stride = s.stride := rfl
@[simp] theorem State.startDirect_freeCount (i : SlotId) (sl : Slot) : (s.startDirect i sl).freeCount = s.freeCount := rfl
@[simp] theorem State.startDirect_pending (i : SlotId) (sl : Slot) : (s.startDirect i sl).pending = s.pending := rfl

@[simp] theorem State.startOperation_rstn (i : SlotId) (sl : Slot) : (s.startOperation i sl).rstn = s.rstn := rfl
@[simp] theorem State.startOperation_opened (i : SlotId) (sl : Slot) : (s.startOperation i sl).opened = s.opened := rfl
@[simp] theorem State.startOperation_admissions (i : SlotId) (sl : Slot) : (s.startOperation i sl).admissions = s.admissions := rfl
@[simp] theorem State.startOperation_segments (i : SlotId) (sl : Slot) : (s.startOperation i sl).segments = s.segments := rfl
@[simp] theorem State.startOperation_watches (i : SlotId) (sl : Slot) : (s.startOperation i sl).watches = s.watches := rfl
@[simp] theorem State.startOperation_store (i : SlotId) (sl : Slot) : (s.startOperation i sl).store = s.store := rfl
@[simp] theorem State.startOperation_faults (i : SlotId) (sl : Slot) : (s.startOperation i sl).faults = s.faults := rfl
@[simp] theorem State.startOperation_port (i : SlotId) (sl : Slot) : (s.startOperation i sl).port = s.port := rfl
@[simp] theorem State.startOperation_marker (i : SlotId) (sl : Slot) : (s.startOperation i sl).marker = s.marker := rfl
@[simp] theorem State.startOperation_freeCount (i : SlotId) (sl : Slot) : (s.startOperation i sl).freeCount = s.freeCount := rfl
@[simp] theorem State.startOperation_pending (i : SlotId) (sl : Slot) : (s.startOperation i sl).pending = s.pending := rfl

/-! ### The fields that are written -/

@[simp] theorem State.startStride_port (r : Stride) : (s.startStride r).port = .stride r := rfl
@[simp] theorem State.startStride_stride (r : Stride) : (s.startStride r).stride = none := rfl
@[simp] theorem State.startStride_marker (r : Stride) : (s.startStride r).marker = .engine := rfl
@[simp] theorem State.startDirect_port (i : SlotId) (sl : Slot) :
    (s.startDirect i sl).port = .direct { owner := i, live := true, job := sl.job, data := sl.data } := rfl
@[simp] theorem State.startDirect_marker (i : SlotId) (sl : Slot) : (s.startDirect i sl).marker = .direct := rfl
@[simp] theorem State.startOperation_stride (i : SlotId) (sl : Slot) :
    (s.startOperation i sl).stride = some (nextStride i sl) := rfl
@[simp] theorem State.withPending_pending (rest : List Instr) : (s.withPending rest).pending = rest := rfl

/-! ### Link updates -/

variable (l : Link)

@[simp] theorem Link.setSlot_status (k : SlotIdx) (v : Option Slot) : (l.setSlot k v).status = l.status := rfl
@[simp] theorem Link.setSlot_receiver (k : SlotIdx) (v : Option Slot) : (l.setSlot k v).receiver = l.receiver := rfl
@[simp] theorem Link.setSlot_inbox (k : SlotIdx) (v : Option Slot) : (l.setSlot k v).inbox = l.inbox := rfl
@[simp] theorem Link.setSlot_budget (k : SlotIdx) (v : Option Slot) : (l.setSlot k v).budget = l.budget := rfl
@[simp] theorem Link.setSlot_hold (k : SlotIdx) (v : Option Slot) : (l.setSlot k v).hold = l.hold := rfl
@[simp] theorem Link.setSlot_notify (k : SlotIdx) (v : Option Slot) : (l.setSlot k v).notify = l.notify := rfl
@[simp] theorem Link.setSlot_priority (k : SlotIdx) (v : Option Slot) : (l.setSlot k v).priority = l.priority := rfl
@[simp] theorem Link.setSlot_admin (k : SlotIdx) (v : Option Slot) : (l.setSlot k v).admin = l.admin := rfl
@[simp] theorem Link.setSlot_badFrames (k : SlotIdx) (v : Option Slot) : (l.setSlot k v).badFrames = l.badFrames := rfl
@[simp] theorem Link.setSlot_lost (k : SlotIdx) (v : Option Slot) : (l.setSlot k v).lost = l.lost := rfl
@[simp] theorem Link.setSlot_dropped (k : SlotIdx) (v : Option Slot) : (l.setSlot k v).dropped = l.dropped := rfl
@[simp] theorem Link.setSlot_replies (k : SlotIdx) (v : Option Slot) : (l.setSlot k v).replies = l.replies := rfl
@[simp] theorem Link.setSlot_notices (k : SlotIdx) (v : Option Slot) : (l.setSlot k v).notices = l.notices := rfl
@[simp] theorem Link.setSlot_transmitter (k : SlotIdx) (v : Option Slot) : (l.setSlot k v).transmitter = l.transmitter := rfl
@[simp] theorem Link.setSlot_outLine (k : SlotIdx) (v : Option Slot) : (l.setSlot k v).outLine = l.outLine := rfl
@[simp] theorem Link.setSlot_streak (k : SlotIdx) (v : Option Slot) : (l.setSlot k v).streak = l.streak := rfl
@[simp] theorem Link.setSlot_hostHold (k : SlotIdx) (v : Option Slot) : (l.setSlot k v).hostHold = l.hostHold := rfl

@[simp] theorem Link.placeReply_status (r : Reply) : (l.placeReply r).status = l.status := rfl
@[simp] theorem Link.placeReply_receiver (r : Reply) : (l.placeReply r).receiver = l.receiver := rfl
@[simp] theorem Link.placeReply_inbox (r : Reply) : (l.placeReply r).inbox = l.inbox := rfl
@[simp] theorem Link.placeReply_budget (r : Reply) : (l.placeReply r).budget = l.budget := rfl
@[simp] theorem Link.placeReply_hold (r : Reply) : (l.placeReply r).hold = l.hold := rfl
@[simp] theorem Link.placeReply_notify (r : Reply) : (l.placeReply r).notify = l.notify := rfl
@[simp] theorem Link.placeReply_priority (r : Reply) : (l.placeReply r).priority = l.priority := rfl
@[simp] theorem Link.placeReply_admin (r : Reply) : (l.placeReply r).admin = l.admin := rfl
@[simp] theorem Link.placeReply_badFrames (r : Reply) : (l.placeReply r).badFrames = l.badFrames := rfl
@[simp] theorem Link.placeReply_lost (r : Reply) : (l.placeReply r).lost = l.lost := rfl
@[simp] theorem Link.placeReply_dropped (r : Reply) : (l.placeReply r).dropped = l.dropped := rfl
@[simp] theorem Link.placeReply_slots (r : Reply) : (l.placeReply r).slots = l.slots := rfl
@[simp] theorem Link.placeReply_notices (r : Reply) : (l.placeReply r).notices = l.notices := rfl
@[simp] theorem Link.placeReply_transmitter (r : Reply) : (l.placeReply r).transmitter = l.transmitter := rfl
@[simp] theorem Link.placeReply_outLine (r : Reply) : (l.placeReply r).outLine = l.outLine := rfl
@[simp] theorem Link.placeReply_streak (r : Reply) : (l.placeReply r).streak = l.streak := rfl
@[simp] theorem Link.placeReply_hostHold (r : Reply) : (l.placeReply r).hostHold = l.hostHold := rfl

@[simp] theorem Link.startReply_status : (l.startReply).status = l.status := rfl
@[simp] theorem Link.startReply_receiver : (l.startReply).receiver = l.receiver := rfl
@[simp] theorem Link.startReply_inbox : (l.startReply).inbox = l.inbox := rfl
@[simp] theorem Link.startReply_budget : (l.startReply).budget = l.budget := rfl
@[simp] theorem Link.startReply_hold : (l.startReply).hold = l.hold := rfl
@[simp] theorem Link.startReply_notify : (l.startReply).notify = l.notify := rfl
@[simp] theorem Link.startReply_priority : (l.startReply).priority = l.priority := rfl
@[simp] theorem Link.startReply_admin : (l.startReply).admin = l.admin := rfl
@[simp] theorem Link.startReply_badFrames : (l.startReply).badFrames = l.badFrames := rfl
@[simp] theorem Link.startReply_lost : (l.startReply).lost = l.lost := rfl
@[simp] theorem Link.startReply_dropped : (l.startReply).dropped = l.dropped := rfl
@[simp] theorem Link.startReply_slots : (l.startReply).slots = l.slots := rfl
@[simp] theorem Link.startReply_replies : (l.startReply).replies = l.replies := rfl
@[simp] theorem Link.startReply_notices : (l.startReply).notices = l.notices := rfl
@[simp] theorem Link.startReply_hostHold : (l.startReply).hostHold = l.hostHold := rfl

@[simp] theorem Link.startNotice_status : (l.startNotice).status = l.status := rfl
@[simp] theorem Link.startNotice_receiver : (l.startNotice).receiver = l.receiver := rfl
@[simp] theorem Link.startNotice_inbox : (l.startNotice).inbox = l.inbox := rfl
@[simp] theorem Link.startNotice_budget : (l.startNotice).budget = l.budget := rfl
@[simp] theorem Link.startNotice_hold : (l.startNotice).hold = l.hold := rfl
@[simp] theorem Link.startNotice_notify : (l.startNotice).notify = l.notify := rfl
@[simp] theorem Link.startNotice_priority : (l.startNotice).priority = l.priority := rfl
@[simp] theorem Link.startNotice_admin : (l.startNotice).admin = l.admin := rfl
@[simp] theorem Link.startNotice_badFrames : (l.startNotice).badFrames = l.badFrames := rfl
@[simp] theorem Link.startNotice_lost : (l.startNotice).lost = l.lost := rfl
@[simp] theorem Link.startNotice_dropped : (l.startNotice).dropped = l.dropped := rfl
@[simp] theorem Link.startNotice_slots : (l.startNotice).slots = l.slots := rfl
@[simp] theorem Link.startNotice_replies : (l.startNotice).replies = l.replies := rfl
@[simp] theorem Link.startNotice_notices : (l.startNotice).notices = l.notices := rfl
@[simp] theorem Link.startNotice_hostHold : (l.startNotice).hostHold = l.hostHold := rfl

@[simp] theorem Link.reopen_receiver : (l.reopen).receiver = l.receiver := rfl
@[simp] theorem Link.reopen_budget : (l.reopen).budget = l.budget := rfl
@[simp] theorem Link.reopen_hold : (l.reopen).hold = l.hold := rfl
@[simp] theorem Link.reopen_notify : (l.reopen).notify = l.notify := rfl
@[simp] theorem Link.reopen_priority : (l.reopen).priority = l.priority := rfl
@[simp] theorem Link.reopen_admin : (l.reopen).admin = l.admin := rfl
@[simp] theorem Link.reopen_badFrames : (l.reopen).badFrames = l.badFrames := rfl
@[simp] theorem Link.reopen_lost : (l.reopen).lost = l.lost := rfl
@[simp] theorem Link.reopen_dropped : (l.reopen).dropped = l.dropped := rfl
@[simp] theorem Link.reopen_slots : (l.reopen).slots = l.slots := rfl
@[simp] theorem Link.reopen_replies : (l.reopen).replies = l.replies := rfl
@[simp] theorem Link.reopen_notices : (l.reopen).notices = l.notices := rfl
@[simp] theorem Link.reopen_transmitter : (l.reopen).transmitter = l.transmitter := rfl
@[simp] theorem Link.reopen_outLine : (l.reopen).outLine = l.outLine := rfl
@[simp] theorem Link.reopen_streak : (l.reopen).streak = l.streak := rfl
@[simp] theorem Link.reopen_hostHold : (l.reopen).hostHold = l.hostHold := rfl

@[simp] theorem Link.placeReply_replies (r : Reply) : (l.placeReply r).replies = l.replies ++ [r] := rfl
@[simp] theorem Link.placeReply_slot (r : Reply) (k : SlotIdx) : (l.placeReply r).slot k = l.slot k := rfl

@[simp] theorem Link.queueNotice_status (m : Notice) : (l.queueNotice m).status = l.status := by
  unfold Link.queueNotice; split <;> [rfl; split <;> rfl]
@[simp] theorem Link.queueNotice_receiver (m : Notice) : (l.queueNotice m).receiver = l.receiver := by
  unfold Link.queueNotice; split <;> [rfl; split <;> rfl]
@[simp] theorem Link.queueNotice_inbox (m : Notice) : (l.queueNotice m).inbox = l.inbox := by
  unfold Link.queueNotice; split <;> [rfl; split <;> rfl]
@[simp] theorem Link.queueNotice_budget (m : Notice) : (l.queueNotice m).budget = l.budget := by
  unfold Link.queueNotice; split <;> [rfl; split <;> rfl]
@[simp] theorem Link.queueNotice_hold (m : Notice) : (l.queueNotice m).hold = l.hold := by
  unfold Link.queueNotice; split <;> [rfl; split <;> rfl]
@[simp] theorem Link.queueNotice_notify (m : Notice) : (l.queueNotice m).notify = l.notify := by
  unfold Link.queueNotice; split <;> [rfl; split <;> rfl]
@[simp] theorem Link.queueNotice_priority (m : Notice) : (l.queueNotice m).priority = l.priority := by
  unfold Link.queueNotice; split <;> [rfl; split <;> rfl]
@[simp] theorem Link.queueNotice_admin (m : Notice) : (l.queueNotice m).admin = l.admin := by
  unfold Link.queueNotice; split <;> [rfl; split <;> rfl]
@[simp] theorem Link.queueNotice_badFrames (m : Notice) : (l.queueNotice m).badFrames = l.badFrames := by
  unfold Link.queueNotice; split <;> [rfl; split <;> rfl]
@[simp] theorem Link.queueNotice_dropped (m : Notice) : (l.queueNotice m).dropped = l.dropped := by
  unfold Link.queueNotice; split <;> [rfl; split <;> rfl]
@[simp] theorem Link.queueNotice_slots (m : Notice) : (l.queueNotice m).slots = l.slots := by
  unfold Link.queueNotice; split <;> [rfl; split <;> rfl]
@[simp] theorem Link.queueNotice_replies (m : Notice) : (l.queueNotice m).replies = l.replies := by
  unfold Link.queueNotice; split <;> [rfl; split <;> rfl]
@[simp] theorem Link.queueNotice_transmitter (m : Notice) : (l.queueNotice m).transmitter = l.transmitter := by
  unfold Link.queueNotice; split <;> [rfl; split <;> rfl]
@[simp] theorem Link.queueNotice_outLine (m : Notice) : (l.queueNotice m).outLine = l.outLine := by
  unfold Link.queueNotice; split <;> [rfl; split <;> rfl]
@[simp] theorem Link.queueNotice_streak (m : Notice) : (l.queueNotice m).streak = l.streak := by
  unfold Link.queueNotice; split <;> [rfl; split <;> rfl]
@[simp] theorem Link.queueNotice_hostHold (m : Notice) : (l.queueNotice m).hostHold = l.hostHold := by
  unfold Link.queueNotice; split <;> [rfl; split <;> rfl]
@[simp] theorem Link.queueNotice_slot (m : Notice) (k : SlotIdx) : (l.queueNotice m).slot k = l.slot k := by
  simp [Link.slot]

@[simp] theorem Link.arbitrate_status : l.arbitrate.status = l.status := by
  unfold Link.arbitrate; split <;> [rfl; split <;> [rfl; split <;> rfl]]
@[simp] theorem Link.arbitrate_receiver : l.arbitrate.receiver = l.receiver := by
  unfold Link.arbitrate; split <;> [rfl; split <;> [rfl; split <;> rfl]]
@[simp] theorem Link.arbitrate_inbox : l.arbitrate.inbox = l.inbox := by
  unfold Link.arbitrate; split <;> [rfl; split <;> [rfl; split <;> rfl]]
@[simp] theorem Link.arbitrate_budget : l.arbitrate.budget = l.budget := by
  unfold Link.arbitrate; split <;> [rfl; split <;> [rfl; split <;> rfl]]
@[simp] theorem Link.arbitrate_hold : l.arbitrate.hold = l.hold := by
  unfold Link.arbitrate; split <;> [rfl; split <;> [rfl; split <;> rfl]]
@[simp] theorem Link.arbitrate_notify : l.arbitrate.notify = l.notify := by
  unfold Link.arbitrate; split <;> [rfl; split <;> [rfl; split <;> rfl]]
@[simp] theorem Link.arbitrate_priority : l.arbitrate.priority = l.priority := by
  unfold Link.arbitrate; split <;> [rfl; split <;> [rfl; split <;> rfl]]
@[simp] theorem Link.arbitrate_admin : l.arbitrate.admin = l.admin := by
  unfold Link.arbitrate; split <;> [rfl; split <;> [rfl; split <;> rfl]]
@[simp] theorem Link.arbitrate_badFrames : l.arbitrate.badFrames = l.badFrames := by
  unfold Link.arbitrate; split <;> [rfl; split <;> [rfl; split <;> rfl]]
@[simp] theorem Link.arbitrate_lost : l.arbitrate.lost = l.lost := by
  unfold Link.arbitrate; split <;> [rfl; split <;> [rfl; split <;> rfl]]
@[simp] theorem Link.arbitrate_dropped : l.arbitrate.dropped = l.dropped := by
  unfold Link.arbitrate; split <;> [rfl; split <;> [rfl; split <;> rfl]]
@[simp] theorem Link.arbitrate_slots : l.arbitrate.slots = l.slots := by
  unfold Link.arbitrate; split <;> [rfl; split <;> [rfl; split <;> rfl]]
@[simp] theorem Link.arbitrate_replies : l.arbitrate.replies = l.replies := by
  unfold Link.arbitrate; split <;> [rfl; split <;> [rfl; split <;> rfl]]
@[simp] theorem Link.arbitrate_notices : l.arbitrate.notices = l.notices := by
  unfold Link.arbitrate; split <;> [rfl; split <;> [rfl; split <;> rfl]]
@[simp] theorem Link.arbitrate_hostHold : l.arbitrate.hostHold = l.hostHold := by
  unfold Link.arbitrate; split <;> [rfl; split <;> [rfl; split <;> rfl]]
@[simp] theorem Link.arbitrate_slot (k : SlotIdx) : l.arbitrate.slot k = l.slot k := by
  simp [Link.slot]

@[simp] theorem Link.ticks_status (k : Nat) : (l.ticks k).status = l.status := rfl
@[simp] theorem Link.ticks_receiver (k : Nat) : (l.ticks k).receiver = l.receiver := rfl
@[simp] theorem Link.ticks_inbox (k : Nat) : (l.ticks k).inbox = l.inbox := rfl
@[simp] theorem Link.ticks_budget (k : Nat) : (l.ticks k).budget = l.budget := rfl
@[simp] theorem Link.ticks_hold (k : Nat) : (l.ticks k).hold = l.hold := rfl
@[simp] theorem Link.ticks_notify (k : Nat) : (l.ticks k).notify = l.notify := rfl
@[simp] theorem Link.ticks_priority (k : Nat) : (l.ticks k).priority = l.priority := rfl
@[simp] theorem Link.ticks_admin (k : Nat) : (l.ticks k).admin = l.admin := rfl
@[simp] theorem Link.ticks_badFrames (k : Nat) : (l.ticks k).badFrames = l.badFrames := rfl
@[simp] theorem Link.ticks_lost (k : Nat) : (l.ticks k).lost = l.lost := rfl
@[simp] theorem Link.ticks_dropped (k : Nat) : (l.ticks k).dropped = l.dropped := rfl
@[simp] theorem Link.ticks_replies (k : Nat) : (l.ticks k).replies = l.replies := rfl
@[simp] theorem Link.ticks_notices (k : Nat) : (l.ticks k).notices = l.notices := rfl
@[simp] theorem Link.ticks_transmitter (k : Nat) : (l.ticks k).transmitter = l.transmitter := rfl
@[simp] theorem Link.ticks_streak (k : Nat) : (l.ticks k).streak = l.streak := rfl
@[simp] theorem Link.ticks_hostHold (k : Nat) : (l.ticks k).hostHold = l.hostHold := rfl
@[simp] theorem Link.ticks_slot (k : Nat) (i : SlotIdx) : (l.ticks k).slot i = (l.slot i).map fun sl => sl.ticks k := by
  simp [Link.ticks, Link.slot]

end Sys2Proof.Machine
end

