-- ==== Sys2Proof/Laws/Links.lean ====
section
/-! SUPPORT. Reading a link or a slot after an update. -/

namespace Sys2Proof.Machine

variable (s : State)

/-! ### Links -/

theorem State.link_setLink (n m : LinkId) (l : Link) : (s.setLink n l).link m = if n = m then l else s.link m := by
  simp [State.setLink, State.link, Vector.getElem_set, Fin.ext_iff]

@[simp] theorem State.link_setLink_self (n : LinkId) (l : Link) : (s.setLink n l).link n = l := by
  simp [State.link_setLink]

theorem State.link_setLink_ne {n m : LinkId} (h : n ≠ m) (l : Link) : (s.setLink n l).link m = s.link m := by
  simp [State.link_setLink, h]

theorem State.link_updLink (n m : LinkId) (f : Link → Link) :
    (s.updLink n f).link m = if n = m then f (s.link m) else s.link m := by
  unfold State.updLink; rw [State.link_setLink]; split <;> simp_all

@[simp] theorem State.link_updLink_self (n : LinkId) (f : Link → Link) : (s.updLink n f).link n = f (s.link n) := by
  simp [State.link_updLink]

theorem State.link_updLink_ne {n m : LinkId} (h : n ≠ m) (f : Link → Link) : (s.updLink n f).link m = s.link m := by
  simp [State.link_updLink, h]

@[simp] theorem State.link_mapLinks (n : LinkId) (f : LinkId → Link → Link) : (s.mapLinks f).link n = f n (s.link n) := by
  simp [State.mapLinks, State.link]

/-- Two states with equal links and equal other fields are equal. -/
theorem State.links_ext {s t : State} (h : ∀ n, s.link n = t.link n) : s.links = t.links := by
  apply Vector.ext
  intro i hi
  exact h ⟨i, hi⟩

@[simp] theorem State.setLink_link (n : LinkId) : s.setLink n (s.link n) = s := by
  have h : (s.setLink n (s.link n)).links = s.links := by
    apply State.links_ext
    intro m
    rw [State.link_setLink]
    split <;> simp_all
  cases s
  simpa [State.setLink] using h

theorem State.setLink_setLink (n : LinkId) (a b : Link) : (s.setLink n a).setLink n b = s.setLink n b := by
  have h : ((s.setLink n a).setLink n b).links = (s.setLink n b).links := by
    apply State.links_ext
    intro m
    simp only [State.link_setLink]
    split <;> rfl
  simp only [State.setLink] at h ⊢
  simp [h]

theorem State.updLink_updLink (n : LinkId) (f g : Link → Link) :
    (s.updLink n f).updLink n g = s.updLink n fun l => g (f l) := by
  unfold State.updLink
  rw [State.link_setLink_self, State.setLink_setLink]

theorem State.updLink_id (n : LinkId) (f : Link → Link) (h : f (s.link n) = s.link n) : s.updLink n f = s := by
  simp [State.updLink, h]

@[simp] theorem State.link_withPending (rest : List Instr) (n : LinkId) : (s.withPending rest).link n = s.link n := rfl

@[simp] theorem State.link_placeReply_self (n : LinkId) (r : Reply) :
    (s.placeReply n r).link n = (s.link n).placeReply r := by
  simp [State.placeReply]

theorem State.link_placeReply (n m : LinkId) (r : Reply) :
    (s.placeReply n r).link m = if n = m then (s.link m).placeReply r else s.link m := by
  simp [State.placeReply, State.link_updLink]

theorem State.link_queueNotice (n m : LinkId) (x : Notice) :
    (s.queueNotice n x).link m = if n = m then (s.link m).queueNotice x else s.link m := by
  simp [State.queueNotice, State.link_updLink]

@[simp] theorem State.link_setWatch (id : WatchId) (w : Option Watch) (n : LinkId) : (s.setWatch id w).link n = s.link n := rfl

@[simp] theorem State.link_setSegment (id : SegmentId) (g : Option Segment) (n : LinkId) :
    (s.setSegment id g).link n = s.link n := rfl

@[simp] theorem State.link_dropWatchesOf (o : LinkId → Bool) (n : LinkId) : (s.dropWatchesOf o).link n = s.link n := by
  simp [State.link]

@[simp] theorem State.link_startStride (r : Stride) (n : LinkId) : (s.startStride r).link n = s.link n := rfl

@[simp] theorem State.link_startDirect (i : SlotId) (sl : Slot) (n : LinkId) : (s.startDirect i sl).link n = s.link n := rfl

@[simp] theorem State.link_arbitrate (n : LinkId) : s.arbitrate.link n = (s.link n).arbitrate := by
  simp [State.arbitrate]

/-! ### Slots -/

theorem Link.slot_setSlot (l : Link) (k j : SlotIdx) (v : Option Slot) :
    (l.setSlot k v).slot j = if k = j then v else l.slot j := by
  simp [Link.setSlot, Link.slot, Vector.getElem_set, Fin.ext_iff]

@[simp] theorem Link.slot_setSlot_self (l : Link) (k : SlotIdx) (v : Option Slot) : (l.setSlot k v).slot k = v := by
  simp [Link.slot_setSlot]

theorem State.slot_setSlot (i j : SlotId) (v : Option Slot) :
    (s.setSlot i v).slot j = if i = j then v else s.slot j := by
  obtain ⟨a, b⟩ := i
  obtain ⟨c, d⟩ := j
  simp only [State.setSlot, State.slot, State.link_updLink, SlotId.mk.injEq]
  by_cases h : a = c
  · subst h
    simp only [if_true, true_and, Link.slot_setSlot]
  · simp [h]

@[simp] theorem State.slot_setSlot_self (i : SlotId) (v : Option Slot) : (s.setSlot i v).slot i = v := by
  simp [State.slot_setSlot]

/-- A change of a link that keeps its slots keeps every slot. -/
theorem State.slot_updLink {n : LinkId} {f : Link → Link} (h : ∀ l k, (f l).slot k = l.slot k) (i : SlotId) :
    (s.updLink n f).slot i = s.slot i := by
  simp only [State.slot, State.link_updLink]
  split <;> simp [h]

@[simp] theorem State.slot_placeReply (n : LinkId) (r : Reply) (i : SlotId) : (s.placeReply n r).slot i = s.slot i :=
  s.slot_updLink (f := fun l => l.placeReply r) (fun _ _ => rfl) i

@[simp] theorem State.slot_queueNotice (n : LinkId) (m : Notice) (i : SlotId) : (s.queueNotice n m).slot i = s.slot i :=
  s.slot_updLink (f := fun l => l.queueNotice m) (fun l k => l.queueNotice_slot m k) i

@[simp] theorem State.slot_setWatch (id : WatchId) (w : Option Watch) (i : SlotId) : (s.setWatch id w).slot i = s.slot i := rfl

@[simp] theorem State.slot_startStride (r : Stride) (i : SlotId) : (s.startStride r).slot i = s.slot i := rfl

@[simp] theorem State.slot_startDirect (j : SlotId) (sl : Slot) (i : SlotId) : (s.startDirect j sl).slot i = s.slot i := rfl

@[simp] theorem State.slot_withPending (rest : List Instr) (i : SlotId) : (s.withPending rest).slot i = s.slot i := rfl

@[simp] theorem State.slot_arbitrate (i : SlotId) : s.arbitrate.slot i = s.slot i := by
  simp [State.slot]

/-! ### The slots that are not FREE -/

theorem mem_linkIds (n : LinkId) : n ∈ linkIds := by revert n; decide

theorem mem_slotIdxs (k : SlotIdx) : k ∈ slotIdxs := by revert k; decide

theorem mem_allSlots (i : SlotId) : i ∈ allSlots := by
  obtain ⟨n, k⟩ := i
  simp [allSlots, mem_linkIds, mem_slotIdxs]

/-- The busy slots are exactly the slots that hold a record. -/
theorem State.mem_busySlots {p : SlotId × Slot} : p ∈ s.busySlots ↔ s.slot p.1 = some p.2 := by
  obtain ⟨i, sl⟩ := p
  simp [State.busySlots, mem_allSlots]

theorem State.mem_busyOn {n : LinkId} {p : SlotIdx × Slot} : p ∈ s.busyOn n ↔ s.slot ⟨n, p.1⟩ = some p.2 := by
  obtain ⟨k, sl⟩ := p
  simp [State.busyOn, mem_slotIdxs]

/-- The busy slots are read from the slots alone. -/
theorem State.busySlots_congr {s t : State} (h : ∀ i, s.slot i = t.slot i) : s.busySlots = t.busySlots := by
  simp [State.busySlots, h]

theorem State.busyOn_congr {s t : State} (h : ∀ i, s.slot i = t.slot i) (n : LinkId) : s.busyOn n = t.busyOn n := by
  simp [State.busyOn, h]

end Sys2Proof.Machine
end

