-- ==== Sys2Proof/Laws/Settle.lean ====
section
/-! SUPPORT. What follows inside an event, in the states where little does: a quiet part, an empty Inbound Buffer, and the
arrival of a frame that is taken at once. -/

namespace Sys2Proof.Machine

variable {s : State}

/-! ### A quiet part -/

theorem State.dispatch_quiet (h : s.engineQuiet = true) : s.dispatch = s := by
  unfold State.engineQuiet at h
  unfold State.dispatch
  split
  · rfl
  · rename_i hb
    simp only [Bool.or_eq_true, hb, false_or, Option.isNone_iff_eq_none, Bool.false_eq_true] at h
    simp [h]

theorem earliest_eq_none : ∀ {l : List (SlotId × Slot)}, earliest l = none ↔ l = []
  | [] => by simp [earliest]
  | p :: rest => by
    simp only [earliest]
    split
    · simp
    · split <;> simp

theorem State.portChoose_quiet (h : s.portQuiet = true) : s.portChoose = s := by
  unfold State.portQuiet at h
  unfold State.portChoose
  split
  · rename_i hp
    simp only [hp, ne_eq, not_true_eq_false, decide_false, Bool.false_or, Bool.and_eq_true,
      Option.isNone_iff_eq_none, List.isEmpty_iff] at h
    have := earliest_eq_none.mpr h.2
    simp [h.1, this]
  · rfl

theorem State.finishLinkreset_quiet (t : LinkId) (h : (!(s.link t).isResetting || s.stoppingOn t) = true) :
    s.finishLinkreset t = s := by
  unfold State.finishLinkreset
  split
  · rename_i r tag hs
    simp only [Link.isResetting, hs, Bool.not_true, Bool.false_or] at h
    simp [h]
  · rfl

theorem foldl_id {α β : Type} (f : α → β → α) : ∀ (l : List β) (a : α), (∀ b ∈ l, f a b = a) → l.foldl f a = a
  | [], _, _ => rfl
  | b :: l, a, h => by
    simp only [List.foldl_cons, h b (by simp)]
    exact foldl_id f l a (fun c hc => h c (by simp [hc]))

theorem State.completeResets_quiet (h : s.resetsQuiet = true) : s.completeResets = s := by
  unfold State.resetsQuiet at h
  unfold State.completeResets
  split
  · rename_i r hr
    simp only [hr, Option.isSome_some, if_true] at h
    simp [h]
  · rename_i hr
    simp only [hr, Option.isSome_none, Bool.false_eq_true, if_false, List.all_eq_true] at h
    exact foldl_id _ _ _ (fun t _ => State.finishLinkreset_quiet t (h t (mem_linkIds t)))

theorem State.react_quiet (h1 : s.resetsQuiet = true) (h2 : s.engineQuiet = true) (h3 : s.portQuiet = true) :
    s.react = s := by
  unfold State.react
  rw [State.completeResets_quiet h1, State.dispatch_quiet h2, State.portChoose_quiet h3]

/-! ### Empty Inbound Buffers -/

theorem State.inboxesEmpty_iff : s.inboxesEmpty = true ↔ ∀ n, (s.link n).inbox = [] := by
  simp [State.inboxesEmpty, mem_linkIds]

theorem State.intake_empty {n : LinkId} (h : (s.link n).inbox = []) : s.intake n = s := by
  simp [State.intake, h]

/-- With empty Inbound Buffers, what follows is the reaction and the arbiters. -/
theorem State.settle_inboxesEmpty (h : ∀ n, (s.react.link n).inbox = []) : s.settle = s.react.arbitrate := by
  unfold State.settle
  rw [foldl_id]
  intro n _
  exact State.intake_empty (h n)

/-! ### Updates that keep the Inbound Buffers -/

/-- The Inbound Buffers of two states are equal. -/
def State.sameInboxes (s t : State) : Prop := ∀ n, (t.link n).inbox = (s.link n).inbox

theorem State.sameInboxes_refl (s : State) : s.sameInboxes s := fun _ => rfl

theorem State.sameInboxes_trans {s t u : State} (h : s.sameInboxes t) (h' : t.sameInboxes u) : s.sameInboxes u :=
  fun n => (h' n).trans (h n)

theorem State.sameInboxes_updLink {n : LinkId} {f : Link → Link} (h : (f (s.link n)).inbox = (s.link n).inbox) :
    s.sameInboxes (s.updLink n f) := by
  intro m
  rw [State.link_updLink]
  split
  · rename_i e; subst e; exact h
  · rfl

theorem State.sameInboxes_setSlot (i : SlotId) (v : Option Slot) : s.sameInboxes (s.setSlot i v) :=
  State.sameInboxes_updLink rfl

theorem State.sameInboxes_placeReply (n : LinkId) (r : Reply) : s.sameInboxes (s.placeReply n r) :=
  State.sameInboxes_updLink rfl

theorem State.sameInboxes_queueNotice (n : LinkId) (m : Notice) : s.sameInboxes (s.queueNotice n m) :=
  State.sameInboxes_updLink (by simp)

theorem State.sameInboxes_dispatch : s.sameInboxes s.dispatch := by
  unfold State.dispatch
  split
  · exact s.sameInboxes_refl
  · split
    · exact s.sameInboxes_refl
    · exact State.sameInboxes_setSlot (s := s) _ _

theorem State.sameInboxes_portChoose : s.sameInboxes s.portChoose := by
  unfold State.portChoose
  split
  · split <;> try exact s.sameInboxes_refl
    split <;> exact s.sameInboxes_refl
  · exact s.sameInboxes_refl

theorem State.sameInboxes_handleOutcome (i : SlotId) (o : Outcome) : s.sameInboxes (s.handleOutcome i o) := by
  unfold State.handleOutcome
  split
  · exact s.sameInboxes_refl
  · split
    · exact State.sameInboxes_updLink rfl
    · refine State.sameInboxes_updLink ?_
      simp only [Link.holdOutcome]
      split <;> simp [Link.setSlot]
    · exact State.sameInboxes_setSlot (s := s) _ _



/-! ### Empty Inbound Buffers stay empty -/

/-- An Inbound Buffer that is empty in s is empty in t. -/
def State.keepsEmpty (s t : State) : Prop := ∀ n, (s.link n).inbox = [] → (t.link n).inbox = []

theorem State.keepsEmpty_refl (s : State) : s.keepsEmpty s := fun _ h => h

theorem State.keepsEmpty.trans {s t u : State} (h : s.keepsEmpty t) (h' : t.keepsEmpty u) : s.keepsEmpty u :=
  fun n e => h' n (h n e)

theorem State.sameInboxes.keepsEmpty {s t : State} (h : s.sameInboxes t) : s.keepsEmpty t :=
  fun n e => (h n).trans e

theorem State.keepsEmpty_updLink {n : LinkId} {f : Link → Link}
    (h : (s.link n).inbox = [] → (f (s.link n)).inbox = []) : s.keepsEmpty (s.updLink n f) := by
  intro m e
  rw [State.link_updLink]
  split
  · rename_i hm; subst hm; exact h e
  · exact e

theorem State.keepsEmpty_mapLinks {f : LinkId → Link → Link}
    (h : ∀ n, (s.link n).inbox = [] → (f n (s.link n)).inbox = []) : s.keepsEmpty (s.mapLinks f) := by
  intro m e
  rw [State.link_mapLinks]
  exact h m e

theorem State.keepsEmpty_of_links {s t : State} (h : t.links = s.links) : s.keepsEmpty t := by
  intro n e
  simpa only [State.link, h] using e

theorem State.keepsEmpty_foldl {β : Type} {f : State → β → State} (h : ∀ s b, State.keepsEmpty s (f s b)) :
    ∀ (l : List β) (s : State), s.keepsEmpty (l.foldl f s)
  | [], s => s.keepsEmpty_refl
  | b :: l, s => (h s b).trans (State.keepsEmpty_foldl h l (f s b))

theorem State.keepsEmpty_dropWatchesOn (seg : SegmentId) : s.keepsEmpty (s.dropWatchesOn seg) := by
  refine State.keepsEmpty_foldl ?_ _ _
  intro s b
  unfold State.dropWatchOn
  split
  · exact s.keepsEmpty_refl
  · split
    · intro n e
      rw [State.link_queueNotice]
      split <;> simpa using e
    · exact s.keepsEmpty_refl

theorem State.keepsEmpty_answerLinkreset (t r : LinkId) (tag : Tag) : s.keepsEmpty (s.answerLinkreset t r tag) := by
  unfold State.answerLinkreset
  split
  · exact (State.sameInboxes_placeReply _ _).keepsEmpty
  · split
    · exact State.keepsEmpty_updLink id
    · exact s.keepsEmpty_refl

theorem State.keepsEmpty_completeResets : s.keepsEmpty s.completeResets := by
  unfold State.completeResets
  split
  · split
    · exact s.keepsEmpty_refl
    · unfold State.completeRestart
      rename_i r _ _
      have h : s.keepsEmpty (s.mapLinks fun _ l => l.reopen.queueNotice (.restarted .restart r)) :=
        State.keepsEmpty_mapLinks fun n _ => by simp [Link.reopen]
      exact h.trans (State.keepsEmpty_of_links rfl)
  · refine State.keepsEmpty_foldl ?_ _ _
    intro s b
    unfold State.finishLinkreset
    split
    · split
      · exact s.keepsEmpty_refl
      · unfold State.completeLinkreset
        refine (State.keepsEmpty.trans ?_ (State.keepsEmpty_answerLinkreset _ _ _)).trans
          (State.sameInboxes_queueNotice _ _).keepsEmpty
        exact State.keepsEmpty_updLink fun _ => rfl
    · exact s.keepsEmpty_refl

theorem State.keepsEmpty_react : s.keepsEmpty s.react :=
  (State.keepsEmpty_completeResets.trans State.sameInboxes_dispatch.keepsEmpty).trans
    State.sameInboxes_portChoose.keepsEmpty

theorem State.keepsEmpty_admission (n : LinkId) (k : SlotIdx) (tag : Tag) (r : DataRequest) (job : Job Operand) :
    s.keepsEmpty (s.admission n k tag r job) := by
  unfold State.admission
  have h : s.keepsEmpty { s.setSlot ⟨n, k⟩ (some (newSlot (s.link n) s.admissions tag r job)) with
      admissions := s.admissions + 1 } :=
    (State.sameInboxes_setSlot (s := s) ⟨n, k⟩ (some (newSlot (s.link n) s.admissions tag r job))).keepsEmpty.trans
      (State.keepsEmpty_of_links rfl)
  split
  · exact h.trans (State.keepsEmpty_updLink id)
  · exact h

theorem State.keepsEmpty_resetLinks (targets : LinkId → Bool) (c : ResetCause) : s.keepsEmpty (s.resetLinks targets c) := by
  have h : s.keepsEmpty (s.mapLinks fun n l => if targets n then l.reset c fun k => s.strideInProgress ⟨n, k⟩ else l) :=
    State.keepsEmpty_mapLinks fun n e => by
      split
      · exact e
      · exact e
  refine h.trans (State.keepsEmpty_of_links ?_)
  unfold State.resetLinks
  simp only [State.dropWatchesOf_links]

/-- Taking a frame fills no Inbound Buffer. -/
theorem State.keepsEmpty_takeRequest (n : LinkId) (tag : Tag) (r : Request) : s.keepsEmpty (s.takeRequest n tag r) := by
  have place : ∀ {s : State} (n : LinkId) (x : Reply), s.keepsEmpty (s.placeReply n x) :=
    fun n x => (State.sameInboxes_placeReply n x).keepsEmpty
  cases r with
  | data r =>
    simp only [State.takeRequest, State.takeData]
    split
    · exact place _ _
    · split
      · exact place _ _
      · split
        · exact place _ _
        · split
          · exact place _ _
          · exact State.keepsEmpty_admission _ _ _ _ _
  | claim =>
    simp only [State.takeRequest, State.takeClaim]
    split
    · exact place _ _
    · split
      · exact State.keepsEmpty_updLink id
      · exact place _ _
  | cancel =>
    simp only [State.takeRequest, State.takeCancel]
    split
    · exact place _ _
    · refine State.keepsEmpty.trans ?_ (place _ _)
      unfold State.cancelTarget
      split
      · exact (State.sameInboxes_handleOutcome _ _).keepsEmpty
      · exact (State.sameInboxes_handleOutcome _ _).keepsEmpty
      · exact (State.sameInboxes_handleOutcome _ _).keepsEmpty
      · exact (State.sameInboxes_setSlot (s := s) _ _).keepsEmpty
      · exact (State.sameInboxes_setSlot (s := s) _ _).keepsEmpty
      · exact s.keepsEmpty_refl
  | watch seg off c m w =>
    simp only [State.takeRequest, State.takeWatch]
    split
    · exact place _ _
    · split
      · exact place _ _
      · exact (State.keepsEmpty_of_links (State.setWatch_links _ _ _)).trans (place _ _)
  | rearm id =>
    simp only [State.takeRequest, State.takeRearm]
    split
    · exact place _ _
    · split
      · exact (State.keepsEmpty_of_links (State.setWatch_links _ _ _)).trans (place _ _)
      · exact place _ _
  | unwatch id =>
    simp only [State.takeRequest, State.takeUnwatch]
    split
    · exact place _ _
    · exact (State.keepsEmpty_of_links (State.setWatch_links _ _ _)).trans (place _ _)
  | define id b len r =>
    simp only [State.takeRequest, State.takeDefine]
    split
    · exact place _ _
    · split
      · exact place _ _
      · split
        · exact place _ _
        · split
          · exact ((State.keepsEmpty_dropWatchesOn id).trans
              (State.keepsEmpty_of_links (State.setSegment_links _ _ _))).trans (place _ _)
          · exact (State.keepsEmpty_of_links (State.setSegment_links _ _ _)).trans (place _ _)
  | drop id =>
    simp only [State.takeRequest, State.takeDrop]
    split
    · exact place _ _
    · split
      · exact place _ _
      · split
        · exact place _ _
        · exact ((State.keepsEmpty_dropWatchesOn id).trans
            (State.keepsEmpty_of_links (State.setSegment_links _ _ _))).trans (place _ _)
  | linkset t p =>
    simp only [State.takeRequest, State.takeLinkset]
    split
    · exact place _ _
    · refine State.keepsEmpty.trans ?_ (place _ _)
      exact State.keepsEmpty_updLink fun e => by cases p <;> exact e
  | query q =>
    cases q <;> simp only [State.takeRequest, State.takeQuery] <;> try exact place _ _
    split <;> exact place _ _
  | linkreset t =>
    simp only [State.takeRequest, State.takeLinkreset]
    split
    · exact place _ _
    · split
      · exact place _ _
      · refine State.keepsEmpty.trans ?_ (State.keepsEmpty_resetLinks _ _)
        unfold State.awaitReset
        split
        · exact s.keepsEmpty_refl
        · exact State.keepsEmpty_updLink id
  | restart =>
    simp only [State.takeRequest, State.takeRestart]
    split
    · exact place _ _
    · exact State.keepsEmpty_resetLinks _ _

theorem State.keepsEmpty_takeFrame (n : LinkId) (f : Frame) : s.keepsEmpty (s.takeFrame n f) := by
  unfold State.takeFrame
  split
  · exact (State.sameInboxes_placeReply _ _).keepsEmpty
  · exact State.keepsEmpty_takeRequest _ _ _

/-- With empty Inbound Buffers before the reaction, what follows is the reaction and the arbiters. -/
theorem State.settle_of_empty (h : ∀ n, (s.link n).inbox = []) : s.settle = s.react.arbitrate :=
  State.settle_inboxesEmpty fun n => State.keepsEmpty_react n (h n)

/-! ### Quietness is read from slots, link states, port and stride -/

section Congr

variable {t : State} (hslot : ∀ i, t.slot i = s.slot i) (hstatus : ∀ n, (t.link n).status = (s.link n).status)
  (hport : t.port = s.port) (hstride : t.stride = s.stride)

include hslot in
theorem State.clearOfClaims_congr (i : SlotId) (cs : List Claim) : t.clearOfClaims i cs = s.clearOfClaims i cs := by
  simp only [State.clearOfClaims, State.busySlots_congr hslot]

include hslot in
theorem State.barred_congr (i : SlotId) (sl : Slot) : t.barred i sl = s.barred i sl := by
  simp only [State.barred, State.busyOn_congr hslot]

include hslot in
theorem State.engineBusy_congr : t.engineBusy = s.engineBusy := by
  simp only [State.engineBusy, State.busySlots_congr hslot]

include hslot in
theorem State.engineQueue_congr : t.engineQueue = s.engineQueue := by
  simp only [State.engineQueue, State.busySlots_congr hslot]

include hslot in
theorem State.engineEligible_congr : t.engineEligible = s.engineEligible := by
  funext i sl
  simp only [State.engineEligible, State.clearOfClaims_congr hslot, State.barred_congr hslot]

include hslot in
theorem State.firstEligible_congr : t.firstEligible = s.firstEligible := by
  simp only [State.firstEligible, State.engineQueue_congr hslot, State.engineEligible_congr hslot]

include hslot in
theorem State.engineQuiet_congr : t.engineQuiet = s.engineQuiet := by
  simp only [State.engineQuiet, State.engineBusy_congr hslot, State.firstEligible_congr hslot]

include hslot hport in
theorem State.directCandidates_congr : t.directCandidates = s.directCandidates := by
  simp only [State.directCandidates, State.busySlots_congr hslot, State.directEligible, State.inAccess, hport,
    State.clearOfClaims_congr hslot, State.barred_congr hslot]

include hslot hport hstride in
theorem State.portQuiet_congr : t.portQuiet = s.portQuiet := by
  simp only [State.portQuiet, State.directCandidates_congr hslot hport, hport, hstride]

include hslot in
theorem State.stoppingOn_congr : t.stoppingOn = s.stoppingOn := by
  funext n
  simp only [State.stoppingOn, State.busyOn_congr hslot]

include hslot hstatus in
theorem State.resetsQuiet_congr : t.resetsQuiet = s.resetsQuiet := by
  simp only [State.resetsQuiet, State.restartInProgress, State.stopping, State.stoppingOn_congr hslot, hstatus,
    Link.isResetting]
  rfl

include hslot hstatus hport hstride in
/-- A part whose slots, link states, port and stride are those of a quiet part reacts to nothing. -/
theorem State.react_congr (h1 : s.resetsQuiet = true) (h2 : s.engineQuiet = true) (h3 : s.portQuiet = true) :
    t.react = t :=
  State.react_quiet ((State.resetsQuiet_congr hslot hstatus).trans h1) ((State.engineQuiet_congr hslot).trans h2)
    ((State.portQuiet_congr hslot hport hstride).trans h3)

end Congr

/-! ### A request taken in the event of its arrival -/

theorem State.serves_iff {n : LinkId} : s.serves n = true ↔
    (s.link n).receiver = .idle ∧ s.intakeAble n = true ∧ s.resetsQuiet = true ∧ s.engineQuiet = true ∧
      s.portQuiet = true ∧ ∀ m, (s.link m).inbox = [] := by
  simp [State.serves, State.calm, and_assoc, State.inboxesEmpty_iff]

theorem Link.receive_idle {l : Link} {f : Frame} (h1 : l.receiver = .idle) (h2 : l.inbox = [])
    (h3 : payloadFits f.payload.length = true) : l.receive f = { l with inbox := [f] } := by
  cases l
  simp_all [Link.receive, Link.seeLow, Link.beginFrame, Link.endFrame, receiveFrame, inboxRoom]

theorem linkId_cases (n : LinkId) : n = 0 ∨ n = 1 ∨ n = 2 ∨ n = 3 := by revert n; decide

/-- A frame that arrives at a link that is served at once is taken in that event: what the event does is what taking the
frame does, and what follows. -/
theorem State.deliver_serves {n : LinkId} {f : Frame} (h : s.serves n = true)
    (hf : payloadFits f.payload.length = true) : s.deliver n f = (s.takeFrame n f).settle := by
  obtain ⟨h1, h2, h3, h4, h5, h6⟩ := State.serves_iff.mp h
  have hx : (s.updLink n fun l => l.receive f) = s.updLink n fun l => { l with inbox := [f] } := by
    simp only [State.updLink, Link.receive_idle h1 (h6 n) hf]
  have hslot : ∀ i, (s.updLink n fun l => { l with inbox := [f] }).slot i = s.slot i :=
    fun i => s.slot_updLink (f := fun l => { l with inbox := [f] }) (fun _ _ => rfl) i
  have hstatus : ∀ m, ((s.updLink n fun l => { l with inbox := [f] }).link m).status = (s.link m).status := by
    intro m; rw [State.link_updLink]; split <;> rfl
  have hreact := State.react_congr (t := s.updLink n fun l => { l with inbox := [f] }) hslot hstatus rfl rfl h3 h4 h5
  have hback : ((s.updLink n fun l => { l with inbox := [f] }).updLink n fun l => { l with inbox := [] }) = s := by
    rw [State.updLink_updLink]
    exact s.updLink_id n _ (by have := h6 n; cases hl : s.link n; simp_all)
  have hable : (s.updLink n fun l => { l with inbox := [f] }).intakeAble n = true := by
    rw [← h2]
    simp only [State.intakeAble, State.directBusy, State.clearing, State.link_updLink_self, State.updLink_port,
      State.updLink_rstn]
    rfl
  have hintake : (s.updLink n fun l => { l with inbox := [f] }).intake n = (s.takeFrame n f).react := by
    unfold State.intake
    simp only [State.link_updLink_self, hable, if_true]
    rw [hback]
  have hempty : ∀ m, ((s.takeFrame n f).react.link m).inbox = [] :=
    fun m => State.keepsEmpty_react m (State.keepsEmpty_takeFrame n f m (h6 m))
  have hother : ∀ m, m ≠ n → (s.updLink n fun l => { l with inbox := [f] }).intake m =
      (s.updLink n fun l => { l with inbox := [f] }) := by
    intro m hm
    refine State.intake_empty ?_
    rw [State.link_updLink_ne _ (Ne.symm hm)]
    exact h6 m
  have hafter : ∀ m, (s.takeFrame n f).react.intake m = (s.takeFrame n f).react :=
    fun m => State.intake_empty (hempty m)
  have hfold : linkIds.foldl State.intake (s.updLink n fun l => { l with inbox := [f] }) =
      (s.takeFrame n f).react := by
    revert hintake hother hafter
    generalize (s.updLink n fun l => { l with inbox := [f] }) = x
    generalize (s.takeFrame n f).react = y
    intro hall hother hafter
    have hn : n = 0 ∨ n = 1 ∨ n = 2 ∨ n = 3 := linkId_cases n
    simp only [linkIds, List.foldl_cons, List.foldl_nil]
    rcases hn with rfl | rfl | rfl | rfl
    · rw [hall, hafter, hafter, hafter]
    · rw [hother 0 (by decide), hall, hafter, hafter]
    · rw [hother 0 (by decide), hother 1 (by decide), hall, hafter]
    · rw [hother 0 (by decide), hother 1 (by decide), hother 2 (by decide), hall]
  unfold State.deliver
  rw [hx]
  conv_lhs => unfold State.settle
  rw [hreact, hfold, State.settle_of_empty fun m => State.keepsEmpty_takeFrame n f m (h6 m)]

/-- A part with empty Inbound Buffers whose slots, link states, port and stride are those of a quiet part: only the
arbiters act. -/
theorem State.settle_congr {t : State} (hslot : ∀ i, t.slot i = s.slot i)
    (hstatus : ∀ n, (t.link n).status = (s.link n).status) (hport : t.port = s.port) (hstride : t.stride = s.stride)
    (hempty : ∀ n, (t.link n).inbox = []) (h1 : s.resetsQuiet = true) (h2 : s.engineQuiet = true)
    (h3 : s.portQuiet = true) : t.settle = t.arbitrate := by
  rw [State.settle_of_empty hempty, State.react_congr hslot hstatus hport hstride h1 h2 h3]

/-- A reply that changes no slot, placed in a quiet part, is followed by the arbiters alone. -/
theorem State.settle_placeReply {n : LinkId} (h : s.serves n = true) (m : LinkId) (r : Reply) :
    (s.placeReply m r).settle = (s.placeReply m r).arbitrate := by
  obtain ⟨_, _, h3, h4, h5, h6⟩ := State.serves_iff.mp h
  refine State.settle_congr (s := s) (fun i => by simp) ?_ rfl rfl ?_ h3 h4 h5
  · intro k; rw [State.link_placeReply]; split <;> rfl
  · intro k; rw [State.link_placeReply]; split <;> exact h6 k

end Sys2Proof.Machine
end

