-- ==== Sys2Proof/Laws/Choice.lean ====
section
/-! SUPPORT. What each choice and each outcome of the part can come to, said once: the port, the engine and its queue, the
Transaction Table, the watches and segments of the state. -/

namespace Sys2Proof.Machine

variable {s : State}

/-! ### Reading what was written -/

theorem State.watch_setWatch (id j : WatchId) (w : Option Watch) :
    (s.setWatch id w).watch j = if id = j then w else s.watch j := by
  simp [State.setWatch, State.watch, Vector.getElem_set, Fin.ext_iff]

theorem State.segment_setSegment (id j : SegmentId) (g : Option Segment) :
    (s.setSegment id g).segment j = if id = j then g else s.segment j := by
  simp [State.setSegment, State.segment, Vector.getElem_set, Fin.ext_iff]

theorem mem_watchIds (id : WatchId) : id ∈ watchIds := by simp [watchIds]

theorem slotIdxs_eq : slotIdxs = List.finRange 8 := by decide

/-! ### Finding slots -/

/-- No slot of the link carries the tag. -/
theorem State.slotWithTag_none {n : LinkId} {tag : Tag} :
    s.slotWithTag n tag = none ↔ ∀ k sl, s.slot ⟨n, k⟩ = some sl → sl.tag ≠ tag := by
  simp only [State.slotWithTag, List.find?_eq_none, State.mem_busyOn, Prod.forall, decide_eq_true_eq, ne_eq]

/-- The slot found by a tag carries it. -/
theorem State.slotWithTag_some {n : LinkId} {tag : Tag} {k : SlotIdx} {sl : Slot} (h : s.slotWithTag n tag = some (k, sl)) :
    s.slot ⟨n, k⟩ = some sl ∧ sl.tag = tag := by
  have h1 := List.mem_of_find?_eq_some h
  have h2 := List.find?_some h
  rw [State.mem_busyOn] at h1
  exact ⟨h1, by simpa using h2⟩

/-- No slot of the link is FREE. -/
theorem State.lowestFree_none {n : LinkId} : s.lowestFree n = none ↔ ∀ k, s.slot ⟨n, k⟩ ≠ none := by
  simp [State.lowestFree, List.find?_eq_none, mem_slotIdxs]

/-- The lowest-numbered FREE slot of the link. -/
theorem State.lowestFree_eq {n : LinkId} {k : SlotIdx} (h : s.slot ⟨n, k⟩ = none)
    (h' : ∀ j, j < k → s.slot ⟨n, j⟩ ≠ none) : s.lowestFree n = some k := by
  simp only [State.lowestFree, slotIdxs_eq]
  rw [List.find?_eq_some_iff_append]
  refine ⟨by simp [h], (List.finRange 8).take k, (List.finRange 8).drop (k + 1), ?_, ?_⟩
  · rw [← List.take_append_drop k (List.finRange 8)]
    congr 1
    · simp
    · rw [List.take_append_drop, List.drop_eq_getElem_cons (by simp)]; simp
  · intro j hj
    rw [List.mem_take_iff_getElem] at hj
    obtain ⟨i, hi, rfl⟩ := hj
    simp only [List.length_finRange, lt_inf_iff] at hi
    have := h' ⟨i, by omega⟩ (by rw [Fin.lt_def]; simp; omega)
    simpa using Option.isSome_iff_ne_none.mpr this

/-! ### Eligibility and the queue -/

/-- A request is not barred when no posted WRITE of its link, admitted earlier, waits (R59). -/
theorem State.barred_eq_false {i : SlotId} {sl : Slot} : s.barred i sl = false ↔
    ∀ k sl', s.slot ⟨i.link, k⟩ = some sl' → sl'.state = .waiting → sl'.phase = .silent → sl.admission ≤ sl'.admission := by
  simp only [State.barred, List.any_eq_false, State.mem_busyOn, Bool.and_eq_true, decide_eq_true_eq, Prod.forall]
  constructor
  · intro h k sl' h1 h2 h3
    have h5 := h k sl' h1
    have h6 : ¬ sl'.admission < sl.admission := fun h4 => h5 ⟨⟨h2, h3⟩, h4⟩
    omega
  · rintro h k sl' h1 ⟨⟨h2, h3⟩, h4⟩
    have := h k sl' h1 h2 h3
    omega

theorem joinQueue_perm (e : SlotId × Slot) : ∀ l, (joinQueue e l).Perm (e :: l)
  | [] => .refl _
  | x :: l => by
    simp only [joinQueue]
    split
    · exact ((joinQueue_perm e l).cons x).trans (.swap _ _ _)
    · exact .refl _

theorem joinQueues_perm : ∀ l : List (SlotId × Slot), (l.foldr joinQueue []).Perm l
  | [] => .refl _
  | x :: l => (joinQueue_perm x _).trans ((joinQueues_perm l).cons x)

theorem joinByAdmission_perm (e : SlotIdx × Slot) : ∀ l, (joinByAdmission e l).Perm (e :: l)
  | [] => .refl _
  | x :: l => by
    simp only [joinByAdmission]
    split
    · exact ((joinByAdmission_perm e l).cons x).trans (.swap _ _ _)
    · exact .refl _

/-- The earliest entry is one of the entries, and none has a smaller admission number. -/
theorem earliest_mem : ∀ {l : List (SlotId × Slot)} {p : SlotId × Slot}, earliest l = some p →
    p ∈ l ∧ ∀ q ∈ l, p.2.admission ≤ q.2.admission
  | [], p, h => by simp [earliest] at h
  | x :: l, p, h => by
    simp only [earliest] at h
    split at h
    · rename_i he
      cases h
      simp [earliest_eq_none.mp he]
    · rename_i q he
      obtain ⟨h1, h2⟩ := earliest_mem he
      split at h
      · cases h
        refine ⟨List.mem_cons_of_mem _ h1, fun r hr => ?_⟩
        rcases List.mem_cons.mp hr with rfl | hr
        · omega
        · exact h2 r hr
      · cases h
        refine ⟨List.mem_cons_self, fun r hr => ?_⟩
        rcases List.mem_cons.mp hr with rfl | hr
        · omega
        · have := h2 r hr; omega

/-! ### What a choice can come to -/

/-- Dispatch does nothing, or starts an eligible QUEUED or SUSPENDED slot on an IDLE engine. -/
theorem State.dispatch_cases : s.dispatch = s ∨ ∃ i sl, s.slot i = some sl ∧ (sl.state = .queued ∨ sl.state = .suspended) ∧
    s.engineEligible i sl = true ∧ s.engineBusy = false ∧ s.dispatch = s.startOperation i sl := by
  unfold State.dispatch
  split
  · exact .inl rfl
  · rename_i hb
    split
    · exact .inl rfl
    · rename_i i sl he
      have h1 := List.mem_of_find?_eq_some he
      have h2 := List.find?_some he
      rw [State.engineQueue, (joinQueues_perm _).mem_iff, List.mem_filter, State.mem_busySlots] at h1
      exact .inr ⟨i, sl, h1.1, by simpa using h1.2, h2, by simpa using hb, rfl⟩

/-- The port's choice does nothing, or an idle port starts the stride asked for or a WAITING slot's direct access. -/
theorem State.portChoose_cases : s.portChoose = s ∨
    (∃ r, s.port = .idle ∧ s.stride = some r ∧ s.portChoose = s.startStride r) ∨
    ∃ i sl, s.port = .idle ∧ s.slot i = some sl ∧ sl.state = .waiting ∧ s.directEligible i sl = true ∧
      s.portChoose = s.startDirect i sl := by
  have key : ∀ i sl, earliest s.directCandidates = some (i, sl) →
      s.slot i = some sl ∧ sl.state = .waiting ∧ s.directEligible i sl = true := by
    intro i sl he
    have h := (earliest_mem he).1
    simp only [State.directCandidates, List.mem_filter, State.mem_busySlots, Bool.and_eq_true, decide_eq_true_eq] at h
    exact ⟨h.1, h.2.1.1, h.2.1.2⟩
  unfold State.portChoose
  split
  · rename_i hp
    split
    · exact .inl rfl
    · rename_i r hs _
      exact .inr (.inl ⟨r, hp, hs, rfl⟩)
    · rename_i i sl _ he
      obtain ⟨h1, h2, h3⟩ := key i sl he
      exact .inr (.inr ⟨i, sl, hp, h1, h2, h3, rfl⟩)
    · rename_i r i sl hs he
      obtain ⟨h1, h2, h3⟩ := key i sl he
      split
      · exact .inr (.inl ⟨r, hp, hs, rfl⟩)
      · exact .inr (.inr ⟨i, sl, hp, h1, h2, h3, rfl⟩)
  · exact .inl rfl

/-- An outcome of a FREE slot is nobody's; any other frees the slot, with an ANSWER or silently, or holds the result. -/
theorem State.handleOutcome_cases (i : SlotId) (o : Outcome) :
    s.slot i = none ∧ s.handleOutcome i o = s ∨ ∃ sl, s.slot i = some sl ∧
      (sl.phase = .unanswered ∧ s.handleOutcome i o = s.updLink i.link (fun l => l.answerOutcome i.idx sl o) ∨
        sl.phase = .deferred ∧ s.handleOutcome i o = s.updLink i.link (fun l => l.holdOutcome i.idx sl o) ∨
        sl.phase = .silent ∧ s.handleOutcome i o = s.setSlot i none) := by
  unfold State.handleOutcome
  split
  · exact .inl ⟨‹_›, rfl⟩
  · rename_i sl hs
    refine .inr ⟨sl, hs, ?_⟩
    split
    · exact .inl ⟨‹_›, rfl⟩
    · exact .inr (.inl ⟨‹_›, rfl⟩)
    · exact .inr (.inr ⟨‹_›, rfl⟩)

/-- A LINKRESET in progress completes when no slot of its link is STOPPING; nothing else happens. -/
theorem State.finishLinkreset_cases (t : LinkId) : s.finishLinkreset t = s ∨ ∃ n tag,
    (s.link t).status = .resetting (.linkreset n tag) ∧ s.stoppingOn t = false ∧
      s.finishLinkreset t = s.completeLinkreset t n tag := by
  unfold State.finishLinkreset
  split
  · rename_i n tag hs
    split
    · exact .inl rfl
    · rename_i hn
      exact .inr ⟨n, tag, hs, by simpa using hn, rfl⟩
  · exact .inl rfl

theorem State.stoppingOn_iff {t : LinkId} : s.stoppingOn t = true ↔ ∃ k sl, s.slot ⟨t, k⟩ = some sl ∧ sl.state = .stopping := by
  simp [State.stoppingOn, State.mem_busyOn]

theorem State.stopping_iff : s.stopping = true ↔ ∃ i sl, s.slot i = some sl ∧ sl.state = .stopping := by
  simp only [State.stopping, List.any_eq_true, State.stoppingOn_iff, mem_linkIds, true_and]
  constructor
  · rintro ⟨t, k, sl, h⟩; exact ⟨⟨t, k⟩, sl, h⟩
  · rintro ⟨⟨t, k⟩, sl, h⟩; exact ⟨t, k, sl, h⟩

/-! ### Resets, frames taken -/

/-- A link after the acceptance of a reset of some links. -/
theorem State.link_resetLinks (targets : LinkId → Bool) (cause : ResetCause) (m : LinkId) :
    (s.resetLinks targets cause).link m =
      if targets m then (s.link m).reset cause fun k => s.strideInProgress ⟨m, k⟩ else s.link m := by
  simp only [State.resetLinks, State.dropWatchesOf, State.link, State.mapLinks, Fin.getElem_fin, Vector.getElem_ofFn]

/-- A data request is refused or admitted. -/
theorem State.takeData_cases (n : LinkId) (tag : Tag) (r : DataRequest) :
    (∃ e, s.takeData n tag r = s.refuse n tag e) ∨ ∃ k job, s.mapOverlaps r.job = false ∧ s.slotWithTag n tag = none ∧
      s.lowestFree n = some k ∧ s.translateJob n r.job = .ok job ∧ s.takeData n tag r = s.admission n k tag r job := by
  unfold State.takeData
  split
  · exact .inl ⟨_, rfl⟩
  · rename_i h1
    split
    · exact .inl ⟨_, rfl⟩
    · rename_i h2
      split
      · exact .inl ⟨_, rfl⟩
      · rename_i k h3
        split
        · exact .inl ⟨_, rfl⟩
        · rename_i job h4
          exact .inr ⟨k, job, by simpa using h1, by simpa using h2, h3, h4, rfl⟩

end Sys2Proof.Machine
end

