-- ==== Sys2Proof/Laws/Octets.lean ====
section
/-! SUPPORT. Octets, words and bits: what is written out is read back. -/

namespace Sys2Proof.Machine

/-! ### Fields of two and four octets -/

theorem half_octets (x : Half) : half (x.extractLsb' 8 8) (x.extractLsb' 0 8) = x := by
  apply BitVec.eq_of_getLsbD_eq
  intro i hi
  simp only [half, BitVec.getLsbD_append, BitVec.getLsbD_extractLsb']
  interval_cases i <;> simp

theorem word_octets (w : Word) :
    word (w.extractLsb' 24 8) (w.extractLsb' 16 8) (w.extractLsb' 8 8) (w.extractLsb' 0 8) = w := by
  apply BitVec.eq_of_getLsbD_eq
  intro i hi
  simp only [word, BitVec.getLsbD_append, BitVec.getLsbD_extractLsb']
  interval_cases i <;> simp

theorem half_high (a b : Octet) : (half a b).extractLsb' 8 8 = a := by
  apply BitVec.eq_of_getLsbD_eq
  intro i hi
  simp only [half, BitVec.getLsbD_append, BitVec.getLsbD_extractLsb']
  interval_cases i <;> simp

theorem half_low (a b : Octet) : (half a b).extractLsb' 0 8 = b := by
  apply BitVec.eq_of_getLsbD_eq
  intro i hi
  simp only [half, BitVec.getLsbD_append, BitVec.getLsbD_extractLsb']
  interval_cases i <;> simp

/-- A number below 65,536 sent in two octets is read back. -/
theorem num_octets {n : Nat} (h : n < 65536) :
    num ((BitVec.ofNat 16 n).extractLsb' 8 8) ((BitVec.ofNat 16 n).extractLsb' 0 8) = n := by
  simp only [num, half_octets, BitVec.toNat_ofNat]
  omega

/-- A count of 1 to 65,536 sent as count − 1 is read back. -/
theorem countOf_octets {c : Nat} (h1 : 1 ≤ c) (h2 : c ≤ 65536) :
    countOf ((BitVec.ofNat 16 (c - 1)).extractLsb' 8 8) ((BitVec.ofNat 16 (c - 1)).extractLsb' 0 8) = c := by
  simp only [countOf, num_octets (show c - 1 < 65536 by omega)]
  omega

theorem octet_toNat {n : Nat} (h : n < 256) : (octet n).toNat = n := by
  simp only [octet, BitVec.toNat_ofNat]
  omega

/-- An index sent in one octet is read back. -/
theorem below_octet {b : Nat} (x : Fin b) (h : b ≤ 256) : below b (octet x.val) = some x := by
  have := x.isLt
  simp [below, octet_toNat (show x.val < 256 by omega)]

/-! ### Lists of words and bits -/

theorem wordsOf_octets : ∀ ws : List Word, wordsOf (wordsOctets ws) = some ws
  | [] => rfl
  | w :: ws => by
    have h : wordsOctets (w :: ws) = wordOctets w ++ wordsOctets ws := by simp [wordsOctets]
    rw [h]
    simp only [wordOctets, List.cons_append, List.nil_append, wordsOf, wordsOf_octets ws, word_octets]
    rfl

theorem wordsOctets_length (ws : List Word) : (wordsOctets ws).length = 4 * ws.length := by
  induction ws with
  | nil => rfl
  | cons w ws ih => simp only [wordsOctets, wordOctets, List.flatMap_cons, List.length_append, List.length_cons,
      List.length_nil] at *; omega

theorem bitsOf_append (a b : List Octet) : bitsOf (a ++ b) = bitsOf a ++ bitsOf b := by simp [bitsOf]

theorem bitsOf_length (os : List Octet) : (bitsOf os).length = 8 * os.length := by
  induction os with
  | nil => rfl
  | cons o os ih => simp only [bitsOf, octetBits, List.flatMap_cons, List.length_append, List.length_cons,
      List.length_nil] at *; omega

/-- Octets sent bit by bit are read back. -/
theorem octetsOf_bitsOf : ∀ os : List Octet, octetsOf (bitsOf os) = os
  | [] => rfl
  | o :: os => by
    have h : bitsOf (o :: os) = octetBits o ++ bitsOf os := by simp [bitsOf]
    rw [h]
    simp only [octetBits, List.cons_append, List.nil_append, octetsOf, octetsOf_bitsOf os]
    congr 1
    unfold octetOf
    apply BitVec.eq_of_getLsbD_eq
    intro i hi
    simp only [BitVec.getLsbD_append, BitVec.getLsbD_ofBool]
    interval_cases i <;> simp

end Sys2Proof.Machine
end

