-- ==== Sys2Proof/Laws/Rows.lean ====
section
/-! SUPPORT. The rows that carry a frame: each is the arrival of its frame, and each frame belongs to one row. -/

namespace Sys2Proof.Machine

/-- A row that carries a frame is the arrival of that frame. -/
theorem exec_frame {i : Instr} {n : LinkId} {f : Frame} (h : i.frame = some (n, f)) (s : State) :
    exec i s = .next (s.deliver n f) := by
  cases i <;> simp only [Instr.frame, Option.some.injEq, Prod.mk.injEq, reduceCtorEq] at h <;>
    (obtain ⟨rfl, rfl⟩ := h; rfl)

theorem Header.frame_header (f : Frame) (k : Octet) (p : List Octet) (hk : f.kind = k) (hp : f.payload = p) :
    f.header.frame k p = f := by
  subst hk; subst hp; rfl

theorem flags_unposted (x : Octet) (h : x.getLsbD 0 = false) : x &&& 0xFE = x := by revert x; decide

theorem flags_posted (x : Octet) (h : x.getLsbD 0 = true) : x ||| 0x01 = x := by revert x; decide

/-- The row a frame belongs to carries that frame. -/
theorem Instr.frame_ofFrame (n : LinkId) (f : Frame) : (Instr.ofFrame n f).frame = some (n, f) := by
  have key : ∀ k, f.kind = k → some (n, f.header.frame k f.payload) = some (n, f) := by
    intro k hk; rw [Header.frame_header f k f.payload hk rfl]
  unfold Instr.ofFrame
  by_cases h10 : f.kind = 0x10
  · rw [if_pos h10]; exact key _ h10
  rw [if_neg h10]
  by_cases h11 : f.kind = 0x11
  · rw [if_pos h11]
    by_cases hp : f.flags.getLsbD 0 = true
    · rw [if_pos hp, ← key _ h11]
      simp only [Instr.frame, Header.posted, Frame.header, Header.frame, flags_posted _ hp]
    · rw [if_neg hp, ← key _ h11]
      rw [Bool.not_eq_true] at hp
      simp only [Instr.frame, Header.unposted, Frame.header, Header.frame, flags_unposted _ hp]
  rw [if_neg h11]
  by_cases h12 : f.kind = 0x12
  · rw [if_pos h12]; exact key _ h12
  rw [if_neg h12]
  by_cases h20 : f.kind = 0x20
  · rw [if_pos h20]; exact key _ h20
  rw [if_neg h20]
  by_cases h21 : f.kind = 0x21
  · rw [if_pos h21]; exact key _ h21
  rw [if_neg h21]
  by_cases h22 : f.kind = 0x22
  · rw [if_pos h22]; exact key _ h22
  rw [if_neg h22]
  by_cases h23 : f.kind = 0x23
  · rw [if_pos h23]; exact key _ h23
  rw [if_neg h23]
  by_cases h24 : f.kind = 0x24
  · rw [if_pos h24]; exact key _ h24
  rw [if_neg h24]
  by_cases h30 : f.kind = 0x30
  · rw [if_pos h30]; exact key _ h30
  rw [if_neg h30]
  by_cases h31 : f.kind = 0x31
  · rw [if_pos h31]; exact key _ h31
  rw [if_neg h31]
  by_cases h40 : f.kind = 0x40
  · rw [if_pos h40]; exact key _ h40
  rw [if_neg h40]
  by_cases h41 : f.kind = 0x41
  · rw [if_pos h41]; exact key _ h41
  rw [if_neg h41]
  by_cases h42 : f.kind = 0x42
  · rw [if_pos h42]; exact key _ h42
  rw [if_neg h42]
  by_cases h50 : f.kind = 0x50
  · rw [if_pos h50]; exact key _ h50
  rw [if_neg h50]
  by_cases h51 : f.kind = 0x51
  · rw [if_pos h51]; exact key _ h51
  rw [if_neg h51]
  by_cases h52 : f.kind = 0x52
  · rw [if_pos h52]
    have := key _ h52
    generalize f.header = h at *
    revert this
    match f.payload with
    | [] => exact id
    | [_] => exact id
    | t :: c :: v =>
      intro this
      rw [← this]
      simp only [linksetRow]
      by_cases c0 : c = 0
      · rw [if_pos c0, c0]; rfl
      rw [if_neg c0]
      by_cases c1 : c = 1
      · rw [if_pos c1, c1]; rfl
      rw [if_neg c1]
      by_cases c2 : c = 2
      · rw [if_pos c2, c2]; rfl
      rw [if_neg c2]
      by_cases c3 : c = 3
      · rw [if_pos c3, c3]; rfl
      rw [if_neg c3]
      by_cases c4 : c = 4
      · rw [if_pos c4, c4]; rfl
      rw [if_neg c4]; rfl
  rw [if_neg h52]
  by_cases h53 : f.kind = 0x53
  · rw [if_pos h53]
    have := key _ h53
    generalize f.header = h at *
    revert this
    match f.payload with
    | [] => exact id
    | c :: v =>
      intro this
      rw [← this]
      simp only [queryRow]
      by_cases c0 : c = 0
      · rw [if_pos c0, c0]; rfl
      rw [if_neg c0]
      by_cases c1 : c = 1
      · rw [if_pos c1, c1]; rfl
      rw [if_neg c1]
      by_cases c2 : c = 2
      · rw [if_pos c2, c2]; rfl
      rw [if_neg c2]
      by_cases c3 : c = 3
      · rw [if_pos c3, c3]; rfl
      rw [if_neg c3]
      by_cases c4 : c = 4
      · rw [if_pos c4, c4]; rfl
      rw [if_neg c4]; rfl
  rw [if_neg h53]
  by_cases h54 : f.kind = 0x54
  · rw [if_pos h54]; exact key _ h54
  rw [if_neg h54]
  by_cases h55 : f.kind = 0x55
  · rw [if_pos h55]; exact key _ h55
  rw [if_neg h55]
  exact key _ rfl

/-- The row a frame belongs to is the arrival of that frame. -/
theorem exec_ofFrame (n : LinkId) (f : Frame) (s : State) : exec (Instr.ofFrame n f) s = .next (s.deliver n f) :=
  exec_frame (Instr.frame_ofFrame n f) s

/-- A row whose frame fits, on a link that is served at once: what taking the frame does, and what follows. -/
theorem exec_serves {i : Instr} {n : LinkId} {f : Frame} {s : State} (h : i.frame = some (n, f)) (hs : s.serves n = true)
    (hf : f.payload.length ≤ 260) : exec i s = .next (s.takeFrame n f).settle := by
  rw [exec_frame h, State.deliver_serves hs (by simpa [payloadFits] using hf)]

/-- A request with its frame, on a link that is served at once. -/
theorem exec_request {i : Instr} {n : LinkId} {f : Frame} {r : Request} {s : State} (h : i.frame = some (n, f))
    (hs : s.serves n = true) (hf : f.payload.length ≤ 260) (hr : parseFrame f = .ok r) :
    exec i s = .next (s.takeRequest n f.tag r).settle := by
  rw [exec_serves h hs hf, State.takeFrame, hr]

/-- A reply that changes no slot is followed by the arbiters alone. -/
theorem exec_reply {i : Instr} {n : LinkId} {f : Frame} {r : Request} {s : State} {x : Reply} (h : i.frame = some (n, f))
    (hs : s.serves n = true) (hf : f.payload.length ≤ 260) (hr : parseFrame f = .ok r)
    (hx : s.takeRequest n f.tag r = s.placeReply n x) : exec i s = .next (s.placeReply n x).arbitrate := by
  rw [exec_request h hs hf hr, hx, State.settle_placeReply hs]

end Sys2Proof.Machine
end

