-- ==== Sys2Proof/Laws/PerInstr.lean ====
section
/-! SUPPORT. One lemma per command: a well-formed command that carries a frame is the row its own frame belongs to, so that no
two rows share a frame and no operand of a row is lost on the link. -/

namespace Sys2Proof.Laws

open Sys2Proof.Machine

/-- The frame of a well-formed command belongs to that command's row. -/
def FrameClass.Statement (i : Instr) : Prop :=
  i.wellFormed = true → ∀ n f, i.frame = some (n, f) → Instr.ofFrame n f = i

theorem flags_unposted_bit (x : Octet) : (x &&& 0xFE).getLsbD 0 = false := by revert x; decide

theorem flags_posted_bit (x : Octet) : (x ||| 0x01).getLsbD 0 = true := by revert x; decide

theorem FrameClass.powerOn : FrameClass.Statement .powerOn := by
  intro _ _ _ h; cases h

theorem FrameClass.startUpClearComplete : FrameClass.Statement .startUpClearComplete := by
  intro _ _ _ h; cases h

theorem FrameClass.rstnFall : FrameClass.Statement .rstnFall := by
  intro _ _ _ h; cases h

theorem FrameClass.rstnRise : FrameClass.Statement .rstnRise := by
  intro _ _ _ h; cases h

theorem FrameClass.storeUpset (a : Half) : FrameClass.Statement (.storeUpset a) := by
  intro _ _ _ h; cases h

theorem FrameClass.frameBegin (n : LinkId) : FrameClass.Statement (.frameBegin n) := by
  intro _ _ _ h; cases h

theorem FrameClass.frameEnd (n : LinkId) (b : List Bool) : FrameClass.Statement (.frameEnd n b) := by
  intro _ _ _ h; cases h

theorem FrameClass.hhldRise (n : LinkId) : FrameClass.Statement (.hhldRise n) := by
  intro _ _ _ h; cases h

theorem FrameClass.hhldFall (n : LinkId) : FrameClass.Statement (.hhldFall n) := by
  intro _ _ _ h; cases h

theorem FrameClass.transmissionComplete (n : LinkId) : FrameClass.Statement (.transmissionComplete n) := by
  intro _ _ _ h; cases h

theorem FrameClass.budgetExpiry (n : LinkId) (k : SlotIdx) : FrameClass.Statement (.budgetExpiry n k) := by
  intro _ _ _ h; cases h

theorem FrameClass.holdExpiry (n : LinkId) (k : SlotIdx) : FrameClass.Statement (.holdExpiry n k) := by
  intro _ _ _ h; cases h

theorem FrameClass.directAccessComplete : FrameClass.Statement .directAccessComplete := by
  intro _ _ _ h; cases h

theorem FrameClass.strideComplete : FrameClass.Statement .strideComplete := by
  intro _ _ _ h; cases h

theorem FrameClass.stoppingStrideComplete : FrameClass.Statement .stoppingStrideComplete := by
  intro _ _ _ h; cases h

theorem FrameClass.read (n : LinkId) (h : Header) (p : List Octet) : FrameClass.Statement (.read n h p) := by
  intro _ _ _ hf; cases hf; rfl

theorem FrameClass.write (n : LinkId) (h : Header) (p : List Octet) : FrameClass.Statement (.write n h p) := by
  intro hw m f hf
  simp only [Instr.wellFormed, Bool.and_eq_true, Bool.not_eq_true'] at hw
  cases hf
  simp only [Instr.ofFrame, Header.frame, Header.unposted, Frame.header, flags_unposted _ hw.1, hw.1]
  rfl

theorem FrameClass.postedWrite (n : LinkId) (h : Header) (p : List Octet) : FrameClass.Statement (.postedWrite n h p) := by
  intro hw m f hf
  simp only [Instr.wellFormed, Bool.and_eq_true] at hw
  cases hf
  simp only [Instr.ofFrame, Header.frame, Header.posted, Frame.header, flags_posted _ hw.1, hw.1]
  rfl

theorem FrameClass.exchange (n : LinkId) (h : Header) (p : List Octet) : FrameClass.Statement (.exchange n h p) := by
  intro _ _ _ hf; cases hf; rfl

theorem FrameClass.copy (n : LinkId) (h : Header) (p : List Octet) : FrameClass.Statement (.copy n h p) := by
  intro _ _ _ hf; cases hf; rfl

theorem FrameClass.find (n : LinkId) (h : Header) (p : List Octet) : FrameClass.Statement (.find n h p) := by
  intro _ _ _ hf; cases hf; rfl

theorem FrameClass.fold (n : LinkId) (h : Header) (p : List Octet) : FrameClass.Statement (.fold n h p) := by
  intro _ _ _ hf; cases hf; rfl

theorem FrameClass.apply (n : LinkId) (h : Header) (p : List Octet) : FrameClass.Statement (.apply n h p) := by
  intro _ _ _ hf; cases hf; rfl

theorem FrameClass.map (n : LinkId) (h : Header) (p : List Octet) : FrameClass.Statement (.map n h p) := by
  intro _ _ _ hf; cases hf; rfl

theorem FrameClass.claim (n : LinkId) (h : Header) (p : List Octet) : FrameClass.Statement (.claim n h p) := by
  intro _ _ _ hf; cases hf; rfl

theorem FrameClass.cancel (n : LinkId) (h : Header) (p : List Octet) : FrameClass.Statement (.cancel n h p) := by
  intro _ _ _ hf; cases hf; rfl

theorem FrameClass.watch (n : LinkId) (h : Header) (p : List Octet) : FrameClass.Statement (.watch n h p) := by
  intro _ _ _ hf; cases hf; rfl

theorem FrameClass.rearm (n : LinkId) (h : Header) (p : List Octet) : FrameClass.Statement (.rearm n h p) := by
  intro _ _ _ hf; cases hf; rfl

theorem FrameClass.unwatch (n : LinkId) (h : Header) (p : List Octet) : FrameClass.Statement (.unwatch n h p) := by
  intro _ _ _ hf; cases hf; rfl

theorem FrameClass.define (n : LinkId) (h : Header) (p : List Octet) : FrameClass.Statement (.define n h p) := by
  intro _ _ _ hf; cases hf; rfl

theorem FrameClass.drop (n : LinkId) (h : Header) (p : List Octet) : FrameClass.Statement (.drop n h p) := by
  intro _ _ _ hf; cases hf; rfl

theorem FrameClass.linksetBudget (n : LinkId) (h : Header) (t : Octet) (v : List Octet) :
    FrameClass.Statement (.linksetBudget n h t v) := by
  intro _ _ _ hf; cases hf; rfl

theorem FrameClass.linksetHold (n : LinkId) (h : Header) (t : Octet) (v : List Octet) :
    FrameClass.Statement (.linksetHold n h t v) := by
  intro _ _ _ hf; cases hf; rfl

theorem FrameClass.linksetNotify (n : LinkId) (h : Header) (t : Octet) (v : List Octet) :
    FrameClass.Statement (.linksetNotify n h t v) := by
  intro _ _ _ hf; cases hf; rfl

theorem FrameClass.linksetPriority (n : LinkId) (h : Header) (t : Octet) (v : List Octet) :
    FrameClass.Statement (.linksetPriority n h t v) := by
  intro _ _ _ hf; cases hf; rfl

theorem FrameClass.linksetAdmin (n : LinkId) (h : Header) (t : Octet) (v : List Octet) :
    FrameClass.Statement (.linksetAdmin n h t v) := by
  intro _ _ _ hf; cases hf; rfl

theorem FrameClass.queryPart (n : LinkId) (h : Header) (p : List Octet) : FrameClass.Statement (.queryPart n h p) := by
  intro _ _ _ hf; cases hf; rfl

theorem FrameClass.queryLink (n : LinkId) (h : Header) (p : List Octet) : FrameClass.Statement (.queryLink n h p) := by
  intro _ _ _ hf; cases hf; rfl

theorem FrameClass.querySlots (n : LinkId) (h : Header) (p : List Octet) : FrameClass.Statement (.querySlots n h p) := by
  intro _ _ _ hf; cases hf; rfl

theorem FrameClass.querySegment (n : LinkId) (h : Header) (p : List Octet) : FrameClass.Statement (.querySegment n h p) := by
  intro _ _ _ hf; cases hf; rfl

theorem FrameClass.queryWatches (n : LinkId) (h : Header) (p : List Octet) : FrameClass.Statement (.queryWatches n h p) := by
  intro _ _ _ hf; cases hf; rfl

theorem FrameClass.linkreset (n : LinkId) (h : Header) (p : List Octet) : FrameClass.Statement (.linkreset n h p) := by
  intro _ _ _ hf; cases hf; rfl

theorem FrameClass.restart (n : LinkId) (h : Header) (p : List Octet) : FrameClass.Statement (.restart n h p) := by
  intro _ _ _ hf; cases hf; rfl

theorem FrameClass.unknownKindFrame (n : LinkId) (k : Octet) (h : Header) (p : List Octet) :
    FrameClass.Statement (.unknownKindFrame n k h p) := by
  intro hw m f hf
  cases hf
  simp only [Instr.wellFormed, Bool.and_eq_true, Bool.not_eq_true', List.contains_eq_mem, decide_eq_false_iff_not, requestCodes,
    List.mem_cons, List.not_mem_nil, not_or, or_false] at hw
  obtain ⟨⟨h1, h2, h3, h4, h5, h6, h7, h8, h9, h10, h11, h12, h13, h14, h15, h16, h17, h18, h19⟩, _⟩ := hw
  simp only [Instr.ofFrame, Header.frame, h1, h2, h3, h4, h5, h6, h7, h8, h9, h10, h11, h12, h13, h14, h15, h16, h17, h18, h19,
    if_false, Frame.header]

theorem FrameClass.ifrSeenLow (n : LinkId) : FrameClass.Statement (.ifrSeenLow n) := by
  intro _ _ _ h; cases h

theorem FrameClass.linksetUnknownParameter (n : LinkId) (h : Header) (p : List Octet) :
    FrameClass.Statement (.linksetUnknownParameter n h p) := by
  intro hw m f hf
  cases hf
  match p, hw with
  | [], _ => rfl
  | [_], _ => rfl
  | t :: c :: v, hw =>
    have hc : 4 < c.toNat := by
      have := (Bool.and_eq_true _ _ ▸ hw : _ ∧ _).1
      exact of_decide_eq_true this
    have ne : ∀ k : Octet, k.toNat ≤ 4 → c ≠ k := by rintro k hk rfl; omega
    show linksetRow n h (t :: c :: v) = _
    simp only [linksetRow]
    rw [if_neg (ne 0 (by decide)), if_neg (ne 1 (by decide)), if_neg (ne 2 (by decide)), if_neg (ne 3 (by decide)),
      if_neg (ne 4 (by decide))]

theorem FrameClass.queryUnknownSelector (n : LinkId) (h : Header) (p : List Octet) :
    FrameClass.Statement (.queryUnknownSelector n h p) := by
  intro hw m f hf
  cases hf
  match p, hw with
  | [], _ => rfl
  | c :: v, hw =>
    have hc : 4 < c.toNat := by
      have := (Bool.and_eq_true _ _ ▸ hw : _ ∧ _).1
      exact of_decide_eq_true this
    have ne : ∀ k : Octet, k.toNat ≤ 4 → c ≠ k := by rintro k hk rfl; omega
    show queryRow n h (c :: v) = _
    simp only [queryRow]
    rw [if_neg (ne 0 (by decide)), if_neg (ne 1 (by decide)), if_neg (ne 2 (by decide)), if_neg (ne 3 (by decide)),
      if_neg (ne 4 (by decide))]

end Sys2Proof.Laws
end

