-- ==== Sys2Proof/Laws/Timers.lean ====
section
/-! SUPPORT. Ticks: k ticks at once are k ticks, what they leave of a slot's timers, and BUDGET_EXPIRY's and HOLD_EXPIRY's
passing of the ticks where no other timer runs out first. -/

namespace Sys2Proof.Machine

/-! ### Several ticks -/

@[simp] theorem State.ticks_link (s : State) (k : Nat) (n : LinkId) : (s.ticks k).link n = (s.link n).ticks k := by
  simp [State.ticks]

@[simp] theorem State.ticks_slot (s : State) (k : Nat) (i : SlotId) :
    (s.ticks k).slot i = (s.slot i).map fun sl => sl.ticks k := by
  simp only [State.slot, State.ticks_link, Link.ticks_slot]

theorem Slot.ticks_ticks (sl : Slot) (a b : Nat) : (sl.ticks a).ticks b = sl.ticks (a + b) := by
  obtain ⟨_, _, _, _, _, _, _, _, _, _, _, x, y⟩ := sl
  cases x <;> cases y <;> simp [Slot.ticks] <;> omega

theorem OutLine.tick_tick (o : OutLine) (t : Transmitter) : (o.tick t).tick t = o.tick t := by
  cases o <;> cases t <;> rfl

theorem Link.ticks_ticks (l : Link) (a b : Nat) : (l.ticks a).ticks b = l.ticks (a + b) := by
  have hs : ((l.ticks a).ticks b).slots = (l.ticks (a + b)).slots := by
    apply Vector.ext
    intro i hi
    have h (l : Link) (k : Nat) : (l.ticks k).slots[i] = l.slots[i].map fun sl => sl.ticks k := Link.ticks_slot l k ⟨i, hi⟩
    rw [h, h, h]
    cases l.slots[i] <;> simp [Slot.ticks_ticks]
  calc
    (l.ticks a).ticks b =
        { l with slots := ((l.ticks a).ticks b).slots, outLine := (l.outLine.tick l.transmitter).tick l.transmitter } := rfl
    _ = l.ticks (a + b) := by rw [hs, OutLine.tick_tick]; rfl

theorem State.ticks_ticks (s : State) (a b : Nat) : (s.ticks a).ticks b = s.ticks (a + b) := by
  have h : ((s.ticks a).ticks b).links = (s.ticks (a + b)).links :=
    State.links_ext fun n => by simp only [State.ticks_link, Link.ticks_ticks]
  calc
    (s.ticks a).ticks b = { s with links := ((s.ticks a).ticks b).links } := rfl
    _ = s.ticks (a + b) := by rw [h]; rfl

/-- Ticks one after another are those ticks at once. -/
theorem State.tick_iterate (s : State) : ∀ k, State.tick^[k + 1] s = s.ticks (k + 1)
  | 0 => rfl
  | k + 1 => by rw [Function.iterate_succ_apply', State.tick_iterate s k, State.tick, State.ticks_ticks]

/-! ### The ticks that an expiry's row stands for -/

theorem State.mem_timersLeft {s : State} {u : Nat} :
    u ∈ s.timersLeft ↔ ∃ i sl, s.slot i = some sl ∧ (sl.budgetTimer = some u ∨ sl.holdTimer = some u) := by
  simp only [State.timersLeft, List.mem_flatMap, List.mem_append, Option.mem_toList, Prod.exists, State.mem_busySlots]

theorem foldl_min_of_le : ∀ (l : List Nat) (t : Nat), (∀ u ∈ l, t ≤ u) → l.foldl min t = t
  | [], _, _ => rfl
  | u :: l, t, h => by
    rw [List.foldl_cons, Nat.min_eq_left (h u (by simp))]
    exact foldl_min_of_le l t fun v hv => h v (by simp [hv])

/-- Without the timer nothing passes. -/
theorem State.passUntil_none {timer : Slot → Option Nat} {i : SlotId} {s : State} (h : (s.slot i).bind timer = none) :
    ∀ fuel, s.passUntil timer i fuel = s
  | 0 => rfl
  | _ + 1 => by simp [State.passUntil, h]

/-- When no timer of the part has fewer ticks left, and no frame waits that may be taken, the timer's ticks pass. -/
theorem State.passUntil_least {timer : Slot → Option Nat}
    (htick : ∀ sl k u, timer sl = some u → timer (sl.ticks k) = some (u - k)) {s : State} {i : SlotId} {sl : Slot} {t : Nat}
    (h : s.slot i = some sl) (ht : timer sl = some t) (hw : s.frameWaits = false)
    (hm : ∀ i sl' u, s.slot i = some sl' → sl'.budgetTimer = some u ∨ sl'.holdTimer = some u → t ≤ u) (fuel : Nat) :
    s.passUntil timer i (fuel + 2) = State.tick^[t] s := by
  rw [State.passUntil]
  cases t with
  | zero => simp [h, ht]
  | succ t =>
    have hd : s.dueSlots = [] := by
      rw [State.dueSlots, List.filter_eq_nil_iff]
      rintro ⟨j, sl'⟩ hj
      rw [State.mem_busySlots] at hj
      simp only [Slot.due, Bool.or_eq_true, decide_eq_true_eq]
      intro hx
      have := hm j sl' 0 hj hx
      omega
    have hf : s.timersLeft.foldl min (t + 1) = t + 1 := foldl_min_of_le _ _ fun u hu => by
      obtain ⟨j, sl', hj, hu⟩ := State.mem_timersLeft.mp hu
      exact hm j sl' u hj hu
    simp only [h, Option.bind_some, ht, hw, hd, List.isEmpty_nil, Bool.not_true, Bool.or_false, Bool.false_eq_true, if_false]
    rw [hf, State.passUntil, State.ticks_slot, h]
    simp [htick sl _ _ ht, State.tick_iterate]

end Sys2Proof.Machine
end

