-- ==== Sys2Proof/Tests/Slice0.lean ====
section
/-! SUPPORT. Tests: well-formedness, one-step checks against the manual's worked sequences, and for each statement with
hypotheses a state and operands that meet them. -/

namespace Sys2Proof.Tests

set_option Elab.async false

open Sys2Proof.Machine

/-! ### States to test on -/

/-- Service open on every link, every receiver IDLE, nothing in progress, the Store all 0. -/
def served : State :=
  { State.reset with
    port := .idle, opened := true
    links := Vector.ofFn fun n => { Link.atReset n false with status := .opened, receiver := .idle } }

/-- The state a command leaves; the state it started from where it stops. -/
def after (c : Instr) (s : State) : State :=
  match exec c s with
  | .next t => t
  | _ => s

/-- A range of segment 0, whose base is 0. -/
def range (offset count : Nat) : Operand := { segment := 0, offset := offset, count := count, first := offset }

/-- The same range as a host names it. -/
def ref (offset count : Nat) : Ref := { segment := 0, offset := offset, count := count }

/-- A slot's record as its admission left it, tag 5, in phase UNANSWERED. -/
def fresh (job : Job Operand) : Slot :=
  { state := if job.isBlock then .queued else .waiting, phase := .unanswered, tag := 5, job := job, admission := 0
    priority := 1, data := [], cursor := job.startCursor, cancelMark := false, outcome := none, reserved := true
    budgetTimer := some 200, holdTimer := none }

/-- The record deferred. -/
def late (sl : Slot) : Slot := { sl with phase := .deferred, reserved := false, budgetTimer := none }

/-- The record HELD with the outcome OK. -/
def kept (sl : Slot) : Slot := { late sl with state := .held, outcome := some ⟨.ok, [7]⟩, holdTimer := some 50000 }

/-- The record of a posted WRITE. -/
def silent (sl : Slot) : Slot := { sl with phase := .silent, reserved := false, budgetTimer := none }

/-- A state with a record in slot k of link n. -/
def withSlot (n : LinkId) (k : SlotIdx) (sl : Slot) (s : State) : State := s.setSlot ⟨n, k⟩ (some sl)

/-- A state with a direct access in progress for slot k of link n, which waits for it. -/
def accessing (n : LinkId) (k : SlotIdx) (sl : Slot) (s : State) : State :=
  { withSlot n k sl s with port := .direct { owner := ⟨n, k⟩, live := true, job := sl.job, data := sl.data }, marker := .direct }

/-- A state with a stride in progress for slot k of link n, in a life state. -/
def striding (n : LinkId) (k : SlotIdx) (st : SlotState) (sl : Slot) (s : State) : State :=
  { withSlot n k { sl with state := st } s with port := .stride (nextStride ⟨n, k⟩ sl) }

/-- A state with one word of its Store damaged. -/
def damaged (a : Nat) (s : State) : State := { s with store := s.store.put a { contents := 9, sound := false } }

/-- A state with one word of its Store written. -/
def holding (a : Nat) (w : Word) (s : State) : State := { s with store := s.store.write a w }

/-- A header with no flags. -/
def header (tag : Tag) (length : Half) : Header := { flags := 0, tag := tag, length := length }

/-- The CLAIM frame of a tag. -/
def claimFrame : Frame := { kind := 0x30, flags := 0, tag := 5, length := 0, payload := [] }

/-! ### Well-formedness: each check refuses a command that fails it -/

theorem test_wf_payload_fits : (Instr.read 0 (header 1 261) (List.replicate 261 0)).wellFormed = false := by decide +kernel

theorem test_wf_payload_fits_boundary : (Instr.read 0 (header 1 260) (List.replicate 260 0)).wellFormed = true := by decide +kernel

theorem test_wf_write_is_not_posted : (Instr.write 0 { header 1 7 with flags := 1 } [0, 0, 0, 0, 0, 0, 0]).wellFormed = false := by
  decide

theorem test_wf_posted_write_is_posted : (Instr.postedWrite 0 (header 1 7) [0, 0, 0, 0, 0, 0, 0]).wellFormed = false := by decide

theorem test_wf_linkset_fits : (Instr.linksetHold 0 (header 1 261) 0 (List.replicate 259 0)).wellFormed = false := by decide +kernel

theorem test_wf_query_fits : (Instr.queryLink 0 (header 1 261) (List.replicate 260 0)).wellFormed = false := by decide +kernel

theorem test_wf_unknown_kind : (Instr.unknownKindFrame 0 0x24 (header 1 0) []).wellFormed = false := by decide

theorem test_wf_unknown_parameter : (Instr.linksetUnknownParameter 0 (header 1 4) [0, 4, 0, 0]).wellFormed = false := by decide

theorem test_wf_unknown_selector : (Instr.queryUnknownSelector 0 (header 1 2) [4, 0]).wellFormed = false := by decide

/-! ### Frames, by the manual's own octets -/

/-- R176: READ, tag 15h, of segment 3, offset 100, count 8; and the length of its ANSWER. -/
theorem test_read_frame : requestOctets ((Request.data { job := .read ⟨3, 100, 8⟩, posted := false, data := [] }).frame 0x15) =
    [0x10, 0x00, 0x15, 0x00, 0x04, 0x03, 0x00, 0x64, 0x08] := by decide

theorem test_answer_frame : (Reply.answer .ok 0x15 (List.replicate 8 0)).octets.take 5 = [0x70, 0x00, 0x15, 0x00, 0x20] ∧
    (withCrc (Reply.answer .ok 0x15 (List.replicate 8 0)).octets).length = 39 := by decide +kernel

/-- R170, R177: CHANGED of watch 9 by link 1 at offset 38. -/
theorem test_notice_frame : (Notice.changed 9 1 38).octets = [0x82, 0x00, 0x09, 0x00, 0x03, 0x01, 0x00, 0x26] := by decide

/-- R167: PHLDn is high during the start-up clear and with two frames buffered, and low otherwise. -/
theorem test_part_hold : State.reset.partHold 0 = true ∧ served.partHold 0 = false ∧
    (served.updLink 1 fun l => { l with inbox := [claimFrame, claimFrame] }).partHold 1 = true := by decide +kernel

/-- R155, R160, R168: the frame sent is the first of the list the transmitter serves, its bits most significant first, OFRn
high with each and low after the last. -/
theorem test_sending :
    let l := ((served.link 0).placeReply (.pending 5)).arbitrate
    (served.link 0).outEdges = [] ∧ l.sending = some (withCrc [0x72, 0x00, 0x05, 0x00, 0x00]) ∧ l.outLine = .high ∧
    l.outEdges.take 8 = [false, true, true, true, false, false, true, false].map (fun b => (true, b)) ∧
    l.outEdges.drop 56 = [(false, false)] := by decide +kernel

/-- R161, R168: OFRn falls when a transmission completes, though another frame is started in that event, and is high again after
the next tick. -/
theorem test_between_frames :
    let t := after (.transmissionComplete 0)
      (served.updLink 0 fun l => { l with replies := [.pending 1, .pending 2], transmitter := .reply, outLine := .high })
    (t.link 0).transmitter = .reply ∧ (t.link 0).replies = [.pending 2] ∧ t.outFrame 0 = false ∧ t.tick.outFrame 0 = true := by
  decide +kernel

/-! ### The table's words -/

/-- The table gives no row any bits, so no word is a command, and none is put in front. -/
theorem test_no_word : decodeTableWord 8 0 = none ∧ (served.withFetchWord 8 0).pending = [] := by decide

/-! ### Worked sequences, one step each -/

/-- Section 2.9: segment 3 has base 4,096; store address 4,201 is damaged. -/
def section29 : State :=
  damaged 4201 (served.setSegment 3 (some { base := 4096, length := 1024, rights := #v[.write, .write, .read, .none] }))

/-- Section 2.9: the READ meets the damaged word. -/
theorem test_read_meets_damage :
    let t := after .directAccessComplete
      (accessing 2 0 { fresh (.read { segment := 3, offset := 100, count := 8, first := 4196 }) with tag := 4 } section29)
    t.faults = 1 ∧ (t.link 2).replies = [.answer .storeFault 4 [105]] ∧ t.slot ⟨2, 0⟩ = none := by decide +kernel

/-- Section 2.9: the READ admitted, and its access started. -/
theorem test_read_admitted :
    let t := after (.read 2 (header 4 4) [3, 0, 100, 8]) section29
    (t.slot ⟨2, 0⟩).map (fun sl => (sl.state, sl.phase, sl.job)) =
      some (.waiting, .unanswered, .read { segment := 3, offset := 100, count := 8, first := 4196 }) ∧
    t.marker = .direct := by decide +kernel

/-- Section 2.9: a WRITE of the word makes it sound. -/
theorem test_write_repairs :
    let t := after .directAccessComplete
      (accessing 1 0 { fresh (.write { segment := 3, offset := 105, count := 1, first := 4201 }) with tag := 9, data := [5] }
        section29)
    t.store.at 4201 = { contents := 5, sound := true } ∧ (t.link 1).replies = [.answer .ok 9 []] := by decide +kernel

/-- Section 2.9: DEFINE of a segment an APPLY runs on is refused INUSE, and accepted otherwise, with base 4,096 and
length 2,048. -/
theorem test_define_in_use :
    let i := Instr.define 0 (header 30 9) [3, 0x10, 0x00, 0x07, 0xFF, 2, 2, 1, 0]
    ((after i (striding 1 2 .running (fresh (.apply { segment := 3, offset := 0, count := 512, first := 4096 } .xor 1))
      section29)).link 0).replies = [.answer .inUse 30 []] ∧
    (after i section29).segment 3 = some { base := 4096, length := 2048, rights := #v[.write, .write, .read, .none] } := by
  decide +kernel

/-- Section 3.8, its fourth event: stride 30 completes with 480 words done, and the port serves link 2's READ, link 3's being
behind its link's posted WRITE. -/
theorem test_port_alternates :
    let apply := fresh (.apply (range 2000 1000) .xor 1)
    let s := striding 1 0 .running { apply with cursor := { apply.cursor with done := 464, next := 464 } } served
    let s := withSlot 3 0 { silent (fresh (.write (range 2500 1))) with admission := 90, data := [1] } s
    let s := withSlot 3 1 { fresh (.read (range 10000 8)) with admission := 91 } s
    let s := withSlot 2 0 { fresh (.read (range 10000 8)) with admission := 92 } s
    let t := after .strideComplete s
    (t.slot ⟨1, 0⟩).map (fun sl => (sl.state, sl.cursor.done)) = some (.running, 480) ∧ t.marker = .direct ∧
    t.port = .direct { owner := ⟨2, 0⟩, live := true, job := .read (range 10000 8), data := [] } := by decide +kernel

/-- Section 4.6: link 2's watch 9 covers the lock word at 30,000. -/
def section46 : State :=
  served.setWatch 9 (some
    { owner := 2, segment := 0, offset := 30000, count := 1, first := 30000, mode := .change, selfOn := false, fired := false
      missed := 0 })

/-- Section 4.6: the first EXCHANGE takes the lock. -/
theorem test_exchange_takes_lock :
    let t := after .directAccessComplete (accessing 1 3 (fresh (.exchange (range 30000 1) 0 0xFFFFFFFF 2)) section46)
    (t.store.at 30000).contents = 2 ∧ (t.link 1).replies = [.answer .ok 5 [0]] ∧
      (t.link 2).notices = [.changed 9 1 0] := by decide +kernel

/-- Section 4.6: the second is answered MISMATCH with the holder's word. -/
theorem test_exchange_mismatch :
    let t := after .directAccessComplete
      (accessing 2 5 (fresh (.exchange (range 30000 1) 0 0xFFFFFFFF 3)) (holding 30000 2 section46))
    (t.store.at 30000).contents = 2 ∧ (t.link 2).replies = [.answer .mismatch 5 [2]] ∧ (t.link 2).notices = [] := by
  decide +kernel

/-- Section 5.7: stride 2 of the APPLY completes, and the FIND of higher priority is dispatched. -/
theorem test_preemption :
    let apply := fresh (.apply (range 8000 100) .xor 1)
    let s := striding 1 4 .running { apply with admission := 200, cursor := { apply.cursor with done := 16, next := 16 } } served
    let s := withSlot 3 0 { fresh (.fold (range 8050 10) .xor 0) with admission := 201 } s
    let s := withSlot 0 2 { fresh (.find (range 20000 320) .eq 1 1) with admission := 202, priority := 2 } s
    let t := after .strideComplete s
    (t.slot ⟨1, 4⟩).map (fun sl => (sl.state, sl.cursor.done)) = some (.suspended, 32) ∧
    (t.slot ⟨0, 2⟩).map (fun sl => sl.state) = some .running ∧
    t.engineQueue.map (fun p => p.1) = [⟨1, 4⟩, ⟨3, 0⟩] := by decide +kernel

/-- Section 6.10: the third stride of a DOWNWARD COPY stops at the damaged source word 1,005. -/
theorem test_copy_downward :
    let copy := fresh (.copy { segment := 5, offset := 100, count := 40, first := 1000 }
      { segment := 5, offset := 110, count := 40, first := 1010 })
    let s := damaged 1005 (holding 1006 6 (holding 1007 7 served))
    let t := after .strideComplete
      (striding 1 1 .running { copy with cursor := { copy.cursor with done := 32, next := 7 } } s)
    copy.cursor = { done := 0, next := 39, acc := 0, dir := .downward } ∧ t.faults = 1 ∧
    (t.link 1).replies = [.answer .storeFault 5 [105, 34]] ∧
    (t.store.at 1016).contents = 6 ∧ (t.store.at 1017).contents = 7 := by decide +kernel

/-- Section 6.11: a marked FOLD ends CANCELLED at its third stride's completion, with 48 words done and accumulator 48. -/
theorem test_fold_cancelled :
    let fold := fresh (.fold (range 0 100) .sum 0)
    let s := (List.range 16).foldl (fun s i => holding (32 + i) 1 s) served
    let t := after .strideComplete (striding 0 0 .running
      { fold with cancelMark := true, cursor := { fold.cursor with done := 32, next := 32, acc := 32 } } s)
    (t.link 0).replies = [.answer .cancelled 5 [48, 48]] ∧ t.slot ⟨0, 0⟩ = none := by decide +kernel

/-- Section 7.8: the first stride fires watch 5 at offset 0; a later one counts a miss. -/
theorem test_watch_fires :
    let w : Watch := { owner := 3, segment := 20, offset := 0, count := 64, first := 5000, mode := .write, selfOn := false
                       fired := false, missed := 0 }
    let apply := fresh (.apply { segment := 21, offset := 0, count := 100, first := 4990 } .xor 1)
    let one := after .strideComplete (striding 1 0 .running apply (served.setWatch 5 (some w)))
    let five := after .strideComplete (striding 1 0 .running { apply with cursor := { apply.cursor with done := 64, next := 64 } }
      (served.setWatch 5 (some { w with fired := true, missed := 3 })))
    one.watch 5 = some { w with fired := true } ∧ (one.link 3).notices = [.changed 5 1 0] ∧
    five.watch 5 = some { w with fired := true, missed := 4 } ∧ (five.link 3).notices = [] := by decide +kernel

/-- Section 8.8: the oldest CHANGED completes in a full queue with two notices lost: OVERFLOW (2) takes the freed place. -/
theorem test_overflow :
    let t := after (.transmissionComplete 2) (served.updLink 2 fun l =>
      { l with notices := List.replicate 16 (.changed 1 0 0), lost := 2, transmitter := .notice, hostHold := true })
    (t.link 2).notices = List.replicate 15 (.changed 1 0 0) ++ [.overflow 2] ∧ (t.link 2).lost = 0 := by decide +kernel

/-- Section 9.5: frame C begins at a full buffer, and ends OVERRUN. -/
theorem test_full_buffer :
    let s := served.updLink 1 fun l => { l with inbox := [claimFrame, claimFrame], replies := List.replicate 12 (.pending 1) }
    ((after (.frameBegin 1) s).link 1).receiver = .skipping ∧
    let t := after (.frameEnd 1 (requestBits claimFrame)) (after (.frameBegin 1) s)
    (t.link 1).badFrames = 1 ∧ (t.link 1).notices = [.badframe .overrun 1] ∧ (t.link 1).inbox.length = 2 := by decide +kernel

/-- R160, R162: the edge that ends a frame has IFRn low, so a CLOSED receiver that has opened becomes IDLE at it. -/
theorem test_open_mid_frame :
    let s := served.updLink 1 fun l => { l with receiver := .closed }
    ((after (.frameBegin 1) s).link 1).receiver = .closed ∧
    ((after (.frameEnd 1 (requestBits claimFrame)) s).link 1).receiver = .idle ∧
    ((after (.frameEnd 1 (requestBits claimFrame)) s).link 1).inbox = [] := by decide +kernel

/-- R167: a frame that ends good while intake takes the one before it leaves a buffer of 1, and PHLDn low. -/
theorem test_one_take :
    let t := after (.frameEnd 1 (requestBits claimFrame))
      (served.updLink 1 fun l => { l with receiver := .assembling, inbox := [{ claimFrame with tag := 4 }] })
    (t.link 1).inbox = [claimFrame] ∧ (t.link 1).replies = [.answer .noTag 4 []] ∧ t.partHold 1 = false := by decide +kernel

/-- R13, R14, R20: the 200 ticks of a budget timer that expires pass for a hold timer too. -/
theorem test_expiry_passes_ticks :
    let s := withSlot 0 0 (fresh (.read (range 0 1))) (withSlot 3 1 (kept (fresh (.read (range 0 1)))) served)
    let t := after (.budgetExpiry 0 0) { s with port := .stride ⟨⟨1, 0⟩, 0, 1⟩ }
    (t.slot ⟨0, 0⟩).map (fun sl => (sl.phase, sl.budgetTimer)) = some (.deferred, none) ∧
    (t.slot ⟨3, 1⟩).map (fun sl => sl.holdTimer) = some (some 49800) ∧ (t.link 0).replies = [.deferred 5] := by
  decide +kernel

/-- R44: a right code over 2 is BADARG. -/
theorem test_right_code :
    ((after (.define 0 (header 30 9) [3, 0x10, 0x00, 0x07, 0xFF, 2, 3, 1, 0]) served).link 0).replies =
      [.answer .badArg 30 []] := by decide +kernel

/-- Section 9.5: frame D ends with a corrupted CRC. -/
theorem test_bad_crc :
    let t := after (.frameEnd 1 (bitsOf (requestOctets claimFrame ++ [0, 0])))
      (served.updLink 1 fun l => { l with receiver := .assembling, badFrames := 1 })
    (t.link 1).badFrames = 2 ∧ (t.link 1).notices = [.badframe .check 2] := by decide +kernel

/-- R22: a CLAIM of a HELD slot returns the result and frees the slot. -/
theorem test_claim_held :
    let t := after (.claim 0 (header 5 0) []) (withSlot 0 0 (kept (fresh (.read (range 0 1)))) served)
    (t.link 0).replies = [.answer .ok 5 [7]] ∧ t.slot ⟨0, 0⟩ = none := by decide +kernel

/-- R24: a CANCEL's OK stands behind its target's ANSWER. -/
theorem test_cancel_order :
    let s := withSlot 0 0 (fresh (.copy (range 0 4) (range 8 4)))
      (striding 1 0 .running (fresh (.apply (range 8 4) .xor 1)) served)
    ((after (.cancel 0 (header 5 0) []) s).link 0).replies = [.answer .cancelled 5 [0], .answer .ok 5 []] := by decide +kernel

/-- R144, R183: QUERY WATCHES of the watch of section 4.6: id 9, segment 0, mode CHANGE and ARMED, offset 30,000, count − 1. -/
theorem test_query_watches :
    ((after (.queryWatches 2 (header 1 2) [0]) section46).link 2).replies = [.answer .ok 1 [0x09000100, 0x75300000]] := by
  decide +kernel

/-- R183, R192: QUERY SLOTS of a running FOLD, tag 5, 32 words done. -/
theorem test_query_slots :
    let fold := fresh (.fold (range 0 100) .sum 0)
    ((after (.querySlots 0 (header 1 2) [0]) (striding 0 0 .running
      { fold with cursor := { fold.cursor with done := 32, next := 32 } } served)).link 0).replies =
        [.answer .ok 1 [0x05220300, 32]] := by decide +kernel

/-- R184, R185: a LINKRESET of another link completes at once when nothing is STOPPING: OK to the requester, RESTARTED to the
link reset. -/
theorem test_linkreset :
    let t := after (.linkreset 0 (header 6 1) [3]) (withSlot 3 0 (kept (fresh (.read (range 0 1)))) served)
    (t.link 0).replies = [.answer .ok 6 []] ∧ (t.link 3).notices = [.restarted .linkreset 0] ∧ t.slot ⟨3, 0⟩ = none ∧
      (t.link 3).status = .opened := by decide +kernel

/-- R187, R188: with a stride in progress a RESTART leaves its slot STOPPING, and completes with that stride. -/
theorem test_restart_waits :
    let t := after (.restart 0 (header 6 0) []) (striding 3 0 .running (fresh (.apply (range 0 1) .xor 1)) served)
    (t.slot ⟨3, 0⟩).map (fun sl => sl.state) = some .stopping ∧ (t.link 2).status = .resetting (.restart 0) ∧
    ((after .stoppingStrideComplete t).link 2).notices = [.restarted .restart 0] ∧
    (after .stoppingStrideComplete t).slot ⟨3, 0⟩ = none := by decide +kernel

/-! ### States and operands that meet the statements' hypotheses

Each theorem is named after its statement and meets the hypotheses of each of its clauses. -/

theorem test_hyp_StepRunsTheFrontCommand : (served.withPending [.powerOn]).pending = .powerOn :: [] := by decide

theorem test_hyp_TimebaseTicksAndExpires :
    (served.pending = [] ∧ served.frameWaits = false ∧ served.dueSlots = []) ∧
    (let s := withSlot 3 7 { fresh (.read (range 0 1)) with budgetTimer := some 0 } served
     s.pending = [] ∧ s.frameWaits = false ∧ s.dueSlots ≠ []) ∧
    let s := served.updLink 3 fun l => { l with inbox := [claimFrame] }
    s.pending = [] ∧ s.frameWaits = true := by decide +kernel

theorem test_hyp_ReceiverChecks :
    ((List.replicate 48 true).length % 8 = 0 ∧ (List.replicate 48 true).length < 56) ∧
    (List.replicate 57 true).length % 8 ≠ 0 ∧
    ((requestBits claimFrame).length = 56 ∧ crc (octetsOf (requestBits claimFrame)) = 0) ∧
    crc (octetsOf (List.replicate 56 false)) ≠ 0 := by decide +kernel

/-- The length at the upper bound, and one octet beyond it. -/
theorem test_hyp_ReceiverChecks_longest :
    ((List.replicate 2136 true).length % 8 = 0 ∧ (List.replicate 2136 true).length = 2136) ∧
    ((List.replicate 2144 true).length % 8 = 0 ∧ 2136 < (List.replicate 2144 true).length) := by
  simp only [List.length_replicate]; decide

/-- Requests at the ends of their ranges. -/
def someRequests : List Request :=
  [.data { job := .read (ref 65535 1), posted := false, data := [] },
   .data { job := .read (ref 0 64), posted := false, data := [] },
   .data { job := .write (ref 0 64), posted := true, data := List.replicate 64 0 },
   .data { job := .exchange (ref 0 1) 0 0 0, posted := false, data := [] },
   .data { job := .copy (ref 0 65536) (ref 0 65536), posted := false, data := [] },
   .data { job := .find (ref 0 1) .noneset 0 0, posted := false, data := [] },
   .data { job := .fold (ref 0 65536) .and 0, posted := false, data := [] },
   .data { job := .apply (ref 0 65536) .set 0, posted := false, data := [] },
   .data { job := .map (ref 256 1) (ref 0 256) .all, posted := false, data := [] },
   .claim, .cancel, .watch 63 65535 65536 .change true, .rearm 31, .unwatch 0, .define 63 65535 65536 (Vector.replicate 4 .write),
   .drop 63, .linkset 0 (.admin true), .linkset 3 (.admin false), .query (.segment 63), .linkreset 3, .restart]

theorem test_hyp_RequestFrameDecodes : (∀ r ∈ someRequests, r.sendable = true) ∧ parseFrame claimFrame = .ok .claim := by
  decide +kernel

theorem test_hyp_FrameBeginAndEndAreTheRow : (served.link 0).receiver = .idle ∧ served.settled = true := by decide +kernel

theorem test_hyp_FrameArrives : (Instr.claim 0 (header 5 0) []).frame = some (0, claimFrame) := by decide

/-- The served state with link 0 changed. -/
def link0 (f : Link → Link) : State := served.updLink 0 f

theorem test_hyp_FrameEnds :
    (((link0 fun l => { l with receiver := .assembling }).link 0).receiver = .assembling ∧
      receiveBits (requestBits claimFrame) = .ok claimFrame ∧ receiveBits [] = .error .short) ∧
    ((link0 fun l => { l with receiver := .skipping }).link 0).receiver = .skipping ∧
    (let l := (link0 fun l => { l with receiver := .closed }).link 0
     l.receiver = .closed ∧ l.status ≠ .closed) ∧
    (served.link 0).receiver = .idle ∧ (State.reset.link 0).receiver = .closed ∧ (State.reset.link 0).status = .closed := by
  decide +kernel

theorem test_hyp_LineEvents :
    (served.link 0).receiver = .idle ∧ (State.reset.link 0).receiver ≠ .idle ∧
    (let l := (link0 fun l => { l with receiver := .closed }).link 0
     l.receiver = .closed ∧ l.status ≠ .closed) ∧
    (State.reset.link 0).status = .closed := by decide +kernel

theorem test_hyp_TransmissionCompletes :
    ((link0 fun l => { l with transmitter := .reply }).link 0).transmitter = .reply ∧
    (let l := (link0 fun l => { l with transmitter := .notice }).link 0
     l.transmitter = .notice ∧ l.lost = 0) ∧
    (∀ k ∈ [1, 16], let l := (link0 fun l => { l with transmitter := .notice, lost := 1, notices := List.replicate k (.overflow 1) }).link 0
     l.transmitter = .notice ∧ l.lost ≠ 0 ∧ l.isResetting = false ∧ 0 < l.notices.length ∧ l.notices.length ≤ 16) ∧
    (served.link 0).transmitter = .free := by decide +kernel

theorem test_hyp_OutboundFrames :
    (served.link 0).transmitter = .free ∧
    (let l := (link0 fun l => { l with transmitter := .reply, replies := [.pending 5] }).link 0
     l.transmitter = .reply ∧ l.replies = .pending 5 :: []) ∧
    let l := (link0 fun l => { l with transmitter := .notice, notices := [.overflow 1] }).link 0
    l.transmitter = .notice ∧ l.notices = .overflow 1 :: [] := by decide +kernel

/-- Link 0 with frames in its Inbound Buffer: intake able with 11 places taken, and not able with 12, or with its own READ in
progress; frames that are refused, and taken. -/
theorem test_hyp_IntakeTakesTheHeadFrame :
    let listed (k : Nat) := link0 fun l => { l with inbox := [claimFrame], replies := List.replicate k (.pending 1) }
    (served.link 0).inbox = [] ∧
    (((listed 11).link 0).status = .opened ∧ ((listed 11).link 0).replies.length = 11 ∧ (listed 11).rstn = true ∧
      (listed 11).port = .idle ∧ (∀ k, (listed 11).slot ⟨0, k⟩ = none) ∧ ((listed 11).link 0).inbox = claimFrame :: []) ∧
    (((listed 12).link 0).replies.length = 12 ∧ ((listed 12).link 0).inbox = claimFrame :: []) ∧
    (∃ a, (accessing 0 0 (fresh (.read (range 0 1))) (listed 0)).port = .direct a ∧ a.live = true ∧ a.owner.link = 0) ∧
    parseFrame { claimFrame with flags := 1 } = .error .badArg ∧ parseFrame claimFrame = .ok .claim :=
  ⟨by decide +kernel, by decide +kernel, by decide +kernel, ⟨_, rfl, rfl, rfl⟩, by decide +kernel, by decide +kernel⟩

theorem test_hyp_IntakeTakesTheHeadFrame_once :
    let s := link0 fun l => { l with inbox := [claimFrame], receiver := .assembling }
    s.resetsQuiet = true ∧ s.engineQuiet = true ∧ s.portQuiet = true ∧ s.intakeAble 0 = true ∧
    (∀ m, m ≠ 0 → (s.link m).inbox = []) ∧ (s.link 0).inbox = [claimFrame] ∧ (s.link 0).receiver = .assembling ∧
    receiveBits (requestBits claimFrame) = .ok claimFrame ∧ parseFrame claimFrame ≠ .ok .restart ∧
    parseFrame claimFrame ≠ .ok (.linkreset 0) := by decide +kernel

theorem test_hyp_ServiceOpens :
    (State.reset.port = .clear ∧ State.reset.rstn = true) ∧
    (let s := { State.reset with rstn := false }
     s.port = .clear ∧ s.rstn = false) ∧ served.port ≠ .clear ∧
    (let s := { served with rstn := false }
     s.rstn = false ∧ s.port ≠ .clear) ∧ served.rstn = true := by decide

theorem test_hyp_RstnFalls :
    (served.rstn = true ∧ served.port ≠ .clear ∧ served.accessInStore = true ∧ served.port = .idle) ∧
    (State.reset.rstn = true ∧ State.reset.port = .clear) ∧ { served with rstn := false }.rstn = false := by decide

/-- Jobs at the end of the Store. -/
def lastRead : Job Operand := .read (range 65472 64)
def lastWrite : Job Operand := .write (range 65472 64)
def lastExchange : Job Operand := .exchange (range 65535 1) 0 0xFFFFFFFF 1
def lastApply : Job Operand := .apply (range 65520 16) .xor 1

/-- A WRITE of 64 words. -/
def writing : Slot := { fresh lastWrite with data := List.replicate 64 3 }

theorem test_hyp_AbandonedAccessWritesAPrefix :
    (∀ job ∈ [lastRead, lastExchange], ∃ t a, let s := accessing 0 0 (fresh job) served
      s.rstn = true ∧ exec .rstnFall s = .next t ∧ s.store.wf = true ∧ s.port = .direct a ∧ a.job = job) ∧
    (∃ t a, let s := accessing 0 0 writing served
      s.rstn = true ∧ exec .rstnFall s = .next t ∧ s.store.wf = true ∧ s.port = .direct a ∧ a.job = lastWrite) ∧
    ∃ t r sl, let s := striding 0 0 .running (fresh lastApply) served
      s.rstn = true ∧ exec .rstnFall s = .next t ∧ s.store.wf = true ∧ s.port = .stride r ∧ s.slot r.owner = some sl := by
  refine ⟨fun job h => ?_, ⟨_, _, rfl, rfl, rfl, rfl, rfl⟩, ⟨_, _, _, rfl, rfl, rfl, rfl, rfl⟩⟩
  simp only [List.mem_cons, List.not_mem_nil, or_false] at h
  rcases h with rfl | rfl
  · exact ⟨_, _, rfl, rfl, rfl, rfl, rfl⟩
  · exact ⟨_, _, rfl, rfl, rfl, rfl, rfl⟩

theorem test_hyp_UpsetDamagesOneWord :
    ((damaged 65535 served).store.at (0xFFFF : Half).toNat).sound = false ∧ 0 ≠ (0xFFFF : Half).toNat := by decide +kernel

/-- The only timer of the part is the least; no frame waits. -/
theorem test_hyp_BudgetExpiryDefers :
    (let s := withSlot 3 7 (fresh lastApply) served
     (∃ sl, s.slot ⟨3, 7⟩ = some sl ∧ sl.budgetTimer = some 200) ∧ s.frameWaits = false ∧ s.inboxesEmpty = true ∧
       (∀ p ∈ s.busySlots, p.2.budgetTimer = some 200 ∧ p.2.holdTimer = none)) ∧
    ∀ sl, (withSlot 3 7 (late (fresh lastApply)) served).slot ⟨3, 7⟩ = some sl → sl.budgetTimer = none :=
  ⟨⟨⟨_, rfl, rfl⟩, by decide +kernel⟩, fun _ h => by cases h; rfl⟩

theorem test_hyp_HoldExpiryDrops :
    (let s := withSlot 3 7 (kept (fresh lastApply)) served
     (∃ sl, s.slot ⟨3, 7⟩ = some sl ∧ sl.holdTimer = some 50000) ∧ (s.link 3).isResetting = false ∧ s.frameWaits = false ∧
       s.inboxesEmpty = true ∧ (∀ p ∈ s.busySlots, p.2.budgetTimer = none ∧ p.2.holdTimer = some 50000)) ∧
    ∀ sl, (withSlot 3 7 (fresh lastApply) served).slot ⟨3, 7⟩ = some sl → sl.holdTimer = none :=
  ⟨⟨⟨_, rfl, rfl⟩, by decide +kernel⟩, fun _ h => by cases h; rfl⟩

theorem test_hyp_OutcomeIsHandledByPhase :
    (∃ sl, (withSlot 0 0 (fresh lastApply) served).slot ⟨0, 0⟩ = some sl ∧ sl.phase = .unanswered) ∧
    (∃ sl, (withSlot 0 0 (late (fresh lastApply)) served).slot ⟨0, 0⟩ = some sl ∧ sl.phase = .deferred ∧
      (served.link 0).notify = true) ∧
    (∃ sl, (withSlot 0 0 (late (fresh lastApply)) (link0 fun l => { l with notify := false })).slot ⟨0, 0⟩ = some sl ∧
      sl.phase = .deferred ∧ ((link0 fun l => { l with notify := false }).link 0).notify = false) ∧
    ∃ sl, (withSlot 0 0 (silent writing) served).slot ⟨0, 0⟩ = some sl ∧ sl.phase = .silent :=
  ⟨⟨_, rfl, rfl⟩, ⟨_, rfl, rfl, rfl⟩, ⟨_, rfl, rfl, rfl⟩, ⟨_, rfl, rfl⟩⟩

theorem test_hyp_ReadCompletes :
    (∃ a r, (accessing 0 0 (fresh lastRead) served).port = .direct a ∧ a.live = true ∧ a.job = .read r ∧
      r.first + r.count = 65536) ∧
    (∀ i, i < 64 → (served.store.at (65472 + i)).sound = true) ∧
    ∀ k ∈ [0, 63], (∀ i, i < k → ((damaged (65472 + k) served).store.at (65472 + i)).sound = true) ∧
      ((damaged (65472 + k) served).store.at (65472 + k)).sound = false :=
  ⟨⟨_, _, rfl, rfl, rfl, rfl⟩, fun _ _ => rfl, by decide +kernel⟩

theorem test_hyp_WriteCompletes :
    ∃ a r, (accessing 0 0 writing served).port = .direct a ∧ a.live = true ∧ a.job = .write r ∧
      r.first + a.data.length = 65536 ∧ a.data ≠ [] ∧ (accessing 0 0 writing served).store.wf = true :=
  ⟨_, _, rfl, rfl, rfl, rfl, by decide, rfl⟩

theorem test_hyp_ExchangeCompletes :
    (∃ a r, (accessing 0 0 (fresh lastExchange) served).port = .direct a ∧ a.live = true ∧
      a.job = .exchange r 0 0xFFFFFFFF 1 ∧ r.first = 65535 ∧ served.store.wf = true) ∧
    (damaged 65535 served).store.wf = true ∧ ((damaged 65535 served).store.at 65535).sound = false ∧
    ((served.store.at 65535).sound = true ∧ (served.store.at 65535).contents &&& 0xFFFFFFFF = (0 : Word) &&& 0xFFFFFFFF) ∧
    ((holding 65535 2 served).store.wf = true ∧ ((holding 65535 2 served).store.at 65535).sound = true ∧
      ((holding 65535 2 served).store.at 65535).contents &&& 0xFFFFFFFF ≠ (0 : Word) &&& 0xFFFFFFFF) :=
  ⟨⟨_, _, rfl, rfl, rfl, rfl, rfl⟩, by decide +kernel⟩

/-- A FIND's and an APPLY's first stride, on slot 0.0. -/
def finding : Slot := fresh (.find (range 0 32) .eq 0 0xFFFFFFFF)
def applying : Slot := fresh (.apply (range 0 32) .xor 1)

/-- The stride in progress in a state, with its slot. -/
def strideOf (s : State) : Option (Stride × Slot) := s.strideSlot .running

/-- What the hypotheses of a stride completion come to. -/
def strideFacts (s : State) : Option (Option Bool × Bool × Bool × Bool) :=
  (strideOf s).map fun p =>
    let run := p.1.run p.2 s.store
    (run.fault.map fun f => f.table, run.found.isSome, decide (p.2.cursor.done + run.done = p.2.job.count),
      p.2.cancelMark && p.1.inStore p.2)

/-- A stride in progress with an operation of a higher priority waiting. -/
def urgentBehind : State :=
  withSlot 1 0 { finding with priority := 3, job := .find (range 64 1) .eq 0 0 } (striding 0 0 .running applying served)

theorem test_hyp_StrideCompletionIsSettled :
    strideFacts (damaged 0 (striding 0 0 .running applying served)) = some (some false, false, false, false) ∧
    strideFacts (striding 0 0 .running finding served) = some (none, true, false, false) ∧
    strideFacts (striding 0 0 .running (fresh lastApply) served) = some (none, false, true, false) ∧
    strideFacts (striding 0 0 .running { applying with cancelMark := true } served) = some (none, false, false, true) ∧
    strideFacts (striding 0 0 .running applying served) = some (none, false, false, false) := by decide +kernel

/-- R100's two clauses, and the premise on the range. -/
theorem test_hyp_StrideCompletionIsSettled_next :
    (striding 0 0 .running applying served).engineQueue.isEmpty = true ∧
    (urgentBehind.engineQueue.any fun p =>
      decide (applying.priority < p.2.priority) && urgentBehind.engineEligible p.1 p.2) = true ∧
    ((strideOf (striding 0 0 .running applying served)).map fun p => p.1.inStore p.2) = some true := by decide +kernel

theorem test_hyp_BlockOutcomesCarryTheirWords :
    (fresh (.copy (range 0 1) (range 1 1))).job = .copy (range 0 1) (range 1 1) ∧
    (finding.job = .find (range 0 32) .eq 0 0xFFFFFFFF ∧
      0 < { finding with cursor := { finding.cursor with done := 1 } }.cursor.done) ∧
    (fresh (.fold (range 0 1) .sum 0)).job = .fold (range 0 1) .sum 0 ∧ applying.job = .apply (range 0 32) .xor 1 ∧
    (fresh (.map (range 256 1) (range 0 256) .low)).job = .map (range 256 1) (range 0 256) .low := by decide +kernel

theorem test_hyp_AccessesOfResetSlotsComplete :
    (∃ a, { served with port := .direct { owner := ⟨0, 0⟩, live := false, job := lastRead, data := [] } }.port = .direct a ∧
      a.live = false ∧ a.inStore = true) ∧
    ∃ r sl, let s := striding 0 0 .stopping (fresh lastApply) served
      s.port = .stride r ∧ s.slot r.owner = some sl ∧ sl.state = .stopping ∧ r.inStore sl = true :=
  ⟨⟨_, rfl, rfl, rfl⟩, _, _, rfl, rfl, rfl, rfl⟩

/-- A stride that writes, upward and downward to the bottom of its range, one that writes nothing, and one of a FIND. -/
theorem test_hyp_StridesReportTheirWords :
    let copy := fresh (.copy (range 0 17) (range 1 17))
    (∃ a, copy.job = .copy a (range 1 17)) ∧ (∃ g x, applying.job = .apply (range 0 32) g x) ∧
    copy.cursor.dir = .downward ∧ applying.cursor.dir = .upward ∧
    (let run := (nextStride ⟨0, 0⟩ applying).run applying []
     run.marks ≠ [] ∧ run.marks.length = 16) ∧
    ((nextStride ⟨0, 0⟩ applying).run applying (damaged 0 served).store).marks = [] ∧
    ((Stride.mk ⟨0, 0⟩ 15 16).run copy []).marks.length = 15 + 1 ∧ ∃ a t v m, finding.job = .find a t v m :=
  ⟨⟨_, rfl⟩, ⟨_, _, rfl⟩, by decide +kernel, by decide +kernel, by decide +kernel, by decide +kernel, by decide +kernel,
    ⟨_, _, _, _, rfl⟩⟩

/-- COPY strides, each to its end and stopped at its last word: upward to the top of the Store, downward to the bottom of the
range. -/
theorem test_hyp_StridesReportTheirWords_copy :
    (¬ (0 < 65520 ∧ 65520 < 0 + 16) ∧ 0 + 16 ≤ 16 ∧ 65520 + (0 + 16) ≤ 65536 ∧ Store.wf [] = true ∧
      ∀ j, j < 16 → (Store.at [] (0 + (0 + j))).sound = true) ∧
    ((damaged 15 served).store.wf = true ∧ (∀ j, j < 15 → ((damaged 15 served).store.at (0 + (0 + j))).sound = true) ∧
      15 < 16 ∧ ((damaged 15 served).store.at (0 + (0 + 15))).sound = false) ∧
    ((0 < 1 ∧ 1 < 0 + 17) ∧ 16 < 17 ∧ 17 ≤ 16 + 1 ∧ 1 + (16 + 1) ≤ 65536 ∧
      ∀ j, j < 17 → (Store.at [] (0 + (16 - j))).sound = true) ∧
    ((damaged 0 served).store.wf = true ∧ (∀ j, j < 16 → ((damaged 0 served).store.at (0 + (16 - j))).sound = true) ∧
      16 < 17 ∧ ((damaged 0 served).store.at (0 + (16 - 16))).sound = false) := by decide +kernel

/-- Ranges that overlap, the destination above the source, and the two ends of the Store. -/
theorem test_hyp_CopyMovesItsRange :
    ∀ p ∈ [(range 0 3, range 1 3), (range 1 3, range 0 3), (range 65533 3, range 0 3), (range 0 3, range 65533 3)],
      p.1.count = p.2.count ∧ [2, 1].sum = p.1.count ∧ p.1.first + p.1.count ≤ 65536 ∧ p.2.first + p.1.count ≤ 65536 ∧
        Store.wf [] = true ∧ ∀ k, k < p.1.count → (Store.at [] (p.1.first + k)).sound = true :=
  fun _ h => by
    simp only [List.mem_cons, List.not_mem_nil, or_false] at h
    rcases h with rfl | rfl | rfl | rfl <;> exact ⟨rfl, rfl, by decide, by decide, rfl, fun _ _ => rfl⟩

theorem test_hyp_FindTestsMaskedWords :
    ((Store.at [] (0 + 65535)).sound = true ∧ (Store.at [] (0 + 65535)).contents = 0) ∧
    ((damaged 65535 served).store.at (0 + 65535)).sound = false := by decide +kernel

/-- Words 0 to 15 of a Store in which word 15 alone holds 1, and one in which it is damaged; EQ 1. -/
theorem test_hyp_FindReportsTheLowestMatch :
    let passes (st : Store) (i : Nat) := FindTest.eq.holds ((st.at (0 + (0 + i))).contents &&& 1) (1 &&& 1) = true
    let sound (st : Store) (i : Nat) := (st.at (0 + (0 + i))).sound = true
    let one := (holding 15 1 served).store
    let bad := (damaged 15 served).store
    (15 < 16 ∧ (∀ j, j < 16 → sound one j) ∧ (∀ j, j < 15 → ¬ passes one j) ∧ passes one 15) ∧
    ((∀ j, j < 15 → sound bad j ∧ ¬ passes bad j) ∧ ¬ sound bad 15) ∧
    ∀ j, j < 15 → sound one j ∧ ¬ passes one j := by decide +kernel

/-- A stride of 16 that reads every word, and one that stops at its last. -/
theorem test_hyp_FoldAccumulates :
    (∀ j, j < 16 → (Store.at [] (0 + (0 + j))).sound = true) ∧
    (∀ j, j < 15 → ((damaged 15 served).store.at (0 + (0 + j))).sound = true) ∧
      15 < 16 ∧ ((damaged 15 served).store.at (0 + (0 + 15))).sound = false := by decide +kernel

/-- A stride of 16 over sound words, one that stops at its first word, and SET over a damaged word. -/
theorem test_hyp_ApplyRewrites :
    (16 ≤ 16 ∧ 65520 + (0 + 16) ≤ 65536 ∧ Store.wf [] = true ∧ ∀ j, j < 16 → (Store.at [] (65520 + (0 + j))).sound = true) ∧
    ((damaged 65520 served).store.wf = true ∧ 0 < 16 ∧ ApplyFn.xor ≠ .set ∧
      ((damaged 65520 served).store.at (65520 + (0 + 0))).sound = false) ∧
    (ApplyFn.set = .set ∧ ((damaged 65520 served).store.at (65520 + (0 + 0))).sound = false) := by decide +kernel

/-- A range below its table, at the table's edge; a range word damaged; a table entry damaged. -/
theorem test_hyp_MapTranslates :
    let a := range 0 2
    let t := range 2 256
    (a.first + (0 + 2) ≤ 65536 ∧ t.first + 256 ≤ 65536 ∧ a.first + (0 + 2) ≤ t.first ∧ Store.wf [] = true) ∧
    (∀ j, j < 2 → (Store.at [] (a.first + (0 + j))).sound = true ∧
      (Store.at [] (t.first + ((Store.at [] (a.first + (0 + j))).contents.extractLsb' 0 8).toNat)).sound = true) ∧
    ((damaged 1 served).store.wf = true ∧ ((damaged 1 served).store.at (a.first + (0 + 1))).sound = false) ∧
    ((damaged 2 served).store.wf = true ∧ ((damaged 2 served).store.at (a.first + (0 + 0))).sound = true ∧
      [((damaged 2 served).store.at (a.first + (0 + 0))).contents.extractLsb' 0 8].find?
        (fun e : Octet => !((damaged 2 served).store.at (t.first + e.toNat)).sound) = some 0) := by decide +kernel

/-- An idle port with a stride asked for, and with direct candidates. -/
theorem test_hyp_PortChoosesByMarkerAndAge :
    let asked := { withSlot 0 0 { applying with state := .running } served with stride := some (nextStride ⟨0, 0⟩ applying) }
    let both := withSlot 1 0 (fresh lastRead) asked
    State.reset.port ≠ .idle ∧ (served.port = .idle ∧ served.stride = none ∧ served.directCandidates = []) ∧
    (asked.port = .idle ∧ asked.stride.isSome = true ∧ asked.directCandidates = []) ∧
    (both.directCandidates ≠ [] ∧ both.stride.isSome = true ∧ both.marker = .engine ∧ { both with marker := .direct }.marker = .direct) ∧
    ((withSlot 1 0 (fresh lastRead) served).directCandidates ≠ [] ∧ served.stride = none) := by decide +kernel

theorem test_hyp_DispatchTakesTheFirstEligible :
    (∃ sl, (striding 0 0 .running applying served).slot ⟨0, 0⟩ = some sl ∧ (sl.state = .running ∨ sl.state = .stopping)) ∧
    (∀ p ∈ served.engineQueue, served.engineEligible p.1 p.2 = false) ∧
    let s := withSlot 0 1 applying (withSlot 0 0 { applying with cancelMark := true } (withSlot 1 0
      { applying with state := .held, admission := 1 } served))
    (∀ p ∈ s.busySlots, p.2.state ≠ .running ∧ p.2.state ≠ .stopping) ∧
    ∃ x, s.engineQueue = [x] ++ (⟨0, 1⟩, applying) :: [] ∧ s.engineEligible x.1 x.2 = false ∧
      s.engineEligible ⟨0, 1⟩ applying = true := by
  refine ⟨⟨_, rfl, .inl rfl⟩, by decide +kernel, by decide +kernel, ⟨(⟨0, 0⟩, { applying with cancelMark := true }), ?_⟩⟩
  decide +kernel

theorem test_hyp_TranslationAnswers :
    served.segmentOf 1 = none ∧ (64 ≤ (64 : Octet).toNat ∧ served.segmentOf 64 = none) ∧
    served.segmentOf 0 = some segmentZero ∧ segmentZero.length < 65535 + 2 ∧ 65535 + 1 ≤ segmentZero.length ∧
    (segmentZero.right 1).code < Right.read.code ∧ Right.write.code ≤ (segmentZero.right 0).code := by decide +kernel

/-! ### Requests taken in the event of their arrival -/

theorem test_served_serves : ∀ n, served.serves n = true := by decide +kernel

theorem test_hyp_FirstChecksRefuse :
    (0x13 : Octet) ∉ requestCodes ∧ (0x10 : Octet) ∈ requestCodes ∧ claimFrame.length.toNat = claimFrame.payload.length ∧
    lengthAllowed claimFrame.kind 0 ∧ ¬ lengthAllowed 0x10 0 ∧
    parseFrame { claimFrame with flags := 1 } = .error .badArg ∧ ({ claimFrame with flags := 1 }).flags ≠ 0 ∧
    parseFrame { claimFrame with kind := 0x10 } = .error .badLen ∧
    (header 1 4).length = 4 ∧ 4 < (5 : Octet).toNat ∧ (header 1 2).length = 2 ∧ served.serves 0 = true :=
  ⟨by decide, by decide, rfl, by simp [lengthAllowed, claimFrame], by simp [lengthAllowed], by decide +kernel⟩

/-- READs of 64 words and of 65, and a LINKSET of the part's own admin, whose fields are out of range by their values. -/
theorem test_hyp_FieldsOutOfRangeAreBadArg :
    let read (c : Octet) : Frame := { kind := 0x10, flags := 0, tag := 5, length := 4, payload := [0, 0, 0, c] }
    let admin : Frame := { kind := 0x52, flags := 0, tag := 5, length := 4, payload := [0, 4, 0, 0] }
    (lengthAllowed 0x10 4 ∧ lengthAllowed 0x52 4) ∧
    (∀ f ∈ [read 0, read 64, read 65, admin],
      f.length.toNat = f.payload.length ∧ (f.kind = 0x10 ∨ f.kind = 0x52) ∧ f.payload.length = 4 ∧ f.flags = 0) ∧
    (parseFrame (read 64)).isOk = true ∧ parseFrame (read 65) = .error .badArg ∧ parseFrame (read 0) = .error .badArg ∧
    parseFrame admin = .error .badArg :=
  ⟨by simp [lengthAllowed], by decide +kernel⟩

/-- A MAP whose table overlaps its range, a READ of an undefined segment, and a link whose tag, or whose slots, are taken. -/
theorem test_hyp_DataRequestsAreRefusedInOrder :
    let map : DataRequest := { job := .map (ref 0 1) (ref 0 256) .low, posted := false, data := [] }
    let read : DataRequest := { job := .read { ref 0 1 with segment := 1 }, posted := false, data := [] }
    let full := (List.finRange 8).foldl (fun s k => withSlot 0 k { kept (fresh lastRead) with tag := octet k.val } s) served
    map.sendable = true ∧ read.sendable = true ∧ served.mapOverlaps map.job = true ∧ served.mapOverlaps read.job = false ∧
    ((withSlot 0 0 (kept (fresh lastRead)) served).serves 0 = true ∧ (kept (fresh lastRead)).tag = 5) ∧
    (full.serves 0 = true ∧ (∀ k, full.slot ⟨0, k⟩ ≠ none) ∧ ∀ p ∈ full.busyOn 0, p.2.tag ≠ 9) ∧
    (served.slot ⟨0, 0⟩ = none ∧ served.translateJob 0 read.job = .error .noSeg) := by decide +kernel

/-- Requests of every kind that are admitted by link 0 into its slot 0. -/
def admissible : List DataRequest :=
  [{ job := .read (ref 65472 64), posted := false, data := [] }, { job := .write (ref 65535 1), posted := false, data := [1] },
   { job := .write (ref 0 1), posted := true, data := [1] }, { job := .exchange (ref 0 1) 0 0 0, posted := false, data := [] },
   { job := .copy (ref 0 2) (ref 1 2), posted := false, data := [] }, { job := .find (ref 0 65536) .eq 0 0, posted := false, data := [] },
   { job := .fold (ref 0 1) .sum 0, posted := false, data := [] }, { job := .apply (ref 0 1) .set 0, posted := false, data := [] },
   { job := .map (ref 256 1) (ref 0 256) .all, posted := false, data := [] }]

theorem test_hyp_DataRequestsAreAdmitted :
    ∀ s ∈ [served, link0 fun l => { l with budget := 0 }], s.serves 0 = true ∧ s.busyOn 0 = [] ∧ s.slot ⟨0, 0⟩ = none ∧
      ∀ r ∈ admissible, r.sendable = true ∧ s.mapOverlaps r.job = false ∧ (s.translateJob 0 r.job).isOk = true := by
  decide +kernel

theorem test_hyp_AdmittedRequestStartsAtOnce :
    (served.serves 0 = true ∧ served.slot ⟨0, 0⟩ = none ∧ served.port = .idle ∧ served.engineBusy = false ∧
      served.busySlots = []) ∧
    (∀ r ∈ admissible, r.sendable = true ∧ served.mapOverlaps r.job = false ∧ (served.translateJob 0 r.job).isOk = true) ∧
    ∀ cs, served.clearOfClaims ⟨0, 0⟩ cs = true := by
  refine ⟨by decide +kernel, by decide +kernel, fun cs => ?_⟩
  have h : served.busySlots = [] := by decide +kernel
  simp [State.clearOfClaims, h]

theorem test_hyp_ClaimAndCancel :
    let queued := withSlot 1 0 { applying with state := .running } (withSlot 0 0 applying
      { served with port := .stride (nextStride ⟨1, 0⟩ applying) })
    let running := striding 0 0 .running applying served
    let held := withSlot 0 0 (kept applying) served
    (served.serves 0 = true ∧ served.busyOn 0 = []) ∧
    (queued.serves 0 = true ∧ queued.busyOn 0 = [(0, applying)] ∧ applying.state = .queued) ∧
    (running.serves 0 = true ∧ running.busyOn 0 = [(0, { applying with state := .running })]) ∧
    (held.serves 0 = true ∧ held.busyOn 0 = [(0, kept applying)] ∧ (kept applying).state = .held ∧
      (kept applying).outcome = some ⟨.ok, [7]⟩) := by decide +kernel

/-- Watch 31 of link 0, ARMED or FIRED. -/
def watching (fired : Bool) : Watch :=
  { owner := 0, segment := 0, offset := 0, count := 65536, first := 0, mode := .write, selfOn := true, fired := fired
    missed := if fired then 255 else 0 }

theorem test_hyp_WatchRequests :
    let full := { served with watches := Vector.replicate 32 (some (watching false)) }
    (∀ id, full.watch id ≠ none) ∧ full.serves 1 = true ∧
    (served.watch 0 = none ∧ served.translate 1 .read ⟨octet 0, 65535, 1⟩ = .error .denied) ∧
    ((full.setWatch 31 none).watch 31 = none ∧ (∀ j, j < 31 → (full.setWatch 31 none).watch j ≠ none) ∧
      (served.translate 0 .read ⟨octet 0, 0, 65536⟩).isOk = true ∧ (full.setWatch 31 none).serves 0 = true) ∧
    (∃ w, full.watch 31 = some w ∧ w.owner ≠ 1) ∧
    ∀ b, (served.setWatch 31 (some (watching b))).serves 0 = true ∧ (watching b).owner = 0 ∧ (watching b).fired = b := by
  refine ⟨by decide +kernel, by decide +kernel, by decide +kernel, by decide +kernel, ⟨_, rfl, by decide⟩, by decide +kernel⟩

theorem test_hyp_DefineAndDrop :
    (served.link 0).admin = true ∧ (served.link 1).admin = false ∧ 65536 < 65535 + 2 ∧ 65535 + 1 ≤ 65536 ∧
    served.segment 1 = none ∧ served.segment 0 ≠ none ∧
    (let s := striding 1 0 .running applying served
     s.serves 0 = true ∧ ∃ sl, s.slot ⟨1, 0⟩ = some sl ∧ sl.state ≠ .held ∧ ∃ o ∈ sl.job.operands, o.segment.toNat = 0) ∧
    (∃ a, { served with port := .direct { owner := ⟨1, 0⟩, live := false, job := lastRead, data := [] } }.port = .direct a ∧
      ∃ o ∈ a.job.operands, o.segment.toNat = 0) ∧ (served.busySlots = [] ∧ served.port = .idle) := by
  refine ⟨rfl, rfl, by decide, by decide, by decide +kernel, by decide +kernel, ⟨by decide +kernel, ⟨_, rfl, by decide +kernel⟩⟩,
    ⟨_, rfl, by decide +kernel⟩, by decide +kernel⟩

theorem test_hyp_LinksetSetsOneParameter :
    (served.serves 0 = true ∧ (served.link 0).admin = true ∧ Parameter.admin false = .admin false ∧ (0 : LinkId) = 0) ∧
    (served.serves 1 = true ∧ (served.link 1).admin = false ∧ (2 : LinkId) ≠ 1) ∧
    ∃ v b, Parameter.budget 0xFFFF = .budget v ∨ Parameter.budget 0xFFFF = .hold v ∨ Parameter.budget 0xFFFF = .notify b :=
  ⟨by decide +kernel, by decide +kernel, 0xFFFF, true, .inl rfl⟩

theorem test_hyp_QueriesAnswer :
    served.serves 1 = true ∧ (0 : LinkId) ≠ 1 ∧ (served.link 1).admin = false ∧ (served.link 1).status = .opened ∧
    (let s := (served.updLink 2 fun l => { l with status := .resetting (.linkreset 3 1) }).updLink 3 fun l =>
      { l with status := .awaiting 2 }
     let s := s.setSlot ⟨2, 0⟩ (some { fresh lastApply with state := .stopping })
     s.serves 0 = true ∧ (s.link 3).status = .awaiting 2 ∧ (s.link 2).status = .resetting (.linkreset 3 1) ∧
       (s.link 0).admin = true) ∧
    served.segment 63 = none ∧ served.segment 0 = some segmentZero := by decide +kernel

/-! ### Resets and invariants -/

/-- Link 2 RESETTING by link 3's LINKRESET, or the whole part by link 0's RESTART, with or without a STOPPING slot. -/
def resettingLink (stopping : Bool) : State :=
  let s := (served.updLink 2 fun l => { l with status := .resetting (.linkreset 3 1) }).updLink 3 fun l =>
    { l with status := .awaiting 2 }
  if stopping then striding 2 0 .stopping (fresh lastApply) s else s

def restarting (stopping : Bool) : State :=
  let s := served.mapLinks fun _ l => { l with status := .resetting (.restart 0) }
  if stopping then striding 2 0 .stopping (fresh lastApply) s else s

theorem test_hyp_ResetsAreAccepted :
    (served.serves 1 = true ∧ (2 : LinkId) ≠ 1 ∧ (served.link 1).admin = false) ∧
    ((resettingLink true).serves 0 = true ∧ ((resettingLink true).link 0).admin = true ∧
      ((resettingLink true).link 2).isResetting = true) ∧
    (served.serves 0 = true ∧ (served.link 0).admin = true ∧ (served.link 2).isResetting = false) := by decide +kernel

theorem test_hyp_ResetsComplete :
    (∀ b, ((resettingLink b).link 2).status = .resetting (.linkreset 3 1) ∧ ((resettingLink b).link 2).notices.length < 16 ∧
      (resettingLink b).stoppingOn 2 = b) ∧
    (∀ b, (restarting b).restartInProgress = some 0 ∧ (∀ m, ((restarting b).link m).notices.length < 16) ∧
      (restarting b).stopping = b) ∧ served.restartInProgress = none := by decide +kernel

theorem test_hyp_SettlingLeavesTheRest : served.inboxesEmpty = true := by decide +kernel

/-- A state with slots of several kinds, a damaged word, a watch and a command that waits. -/
def busy : State :=
  (withSlot 1 1 { kept (fresh lastRead) with admission := 1 } (striding 0 0 .running applying
    (damaged 40 (served.setWatch 31 (some (watching true)))))).withPending [.claim 1 (header 5 0) []]

/-- The same state with both slots' admissions counted. -/
def counted : State := { busy with admissions := 2 }

theorem test_hyp_StoreFormIsKept : counted.store.wf = true ∧ ∃ t, step counted = .next t := ⟨by decide +kernel, _, rfl⟩

theorem test_hyp_BoundsAreKept : counted.bounded = true ∧ ∃ t, step counted = .next t := ⟨by decide +kernel, _, rfl⟩

theorem test_hyp_ClaimsNeverConflict : counted.claimsCompatible = true ∧ ∃ t, step counted = .next t := ⟨by decide +kernel, _, rfl⟩

theorem test_hyp_RecordsStayConsistent :
    counted.numbersDistinct = true ∧ counted.consistent = true ∧ ∃ t, step counted = .next t := ⟨by decide +kernel, by decide +kernel, _, rfl⟩

theorem test_hyp_LinksWithoutAdminAreContained :
    served.serves 1 = true ∧ (served.link 1).admin = false ∧ claimFrame.payload.length ≤ 260 ∧
      ∃ t, exec (Instr.ofFrame 1 claimFrame) served = .next t := ⟨by decide +kernel, rfl, by decide, _, rfl⟩

end Sys2Proof.Tests
end

section
/-! PROOFS. Claims: when two store ranges overlap, when two claims conflict (R51), and when the claims held leave a list of
claims free. -/

namespace Sys2Proof.Machine

variable {s : State}

/-! ### Overlap and conflict -/

/-- Where two ranges overlap, the greater of their first addresses lies in both. -/
theorem rangesOverlap_iff {a m b k : Nat} :
    rangesOverlap a m b k = true ↔ ∃ x, a ≤ x ∧ x < a + m ∧ b ≤ x ∧ x < b + k := by
  simp only [rangesOverlap, Bool.and_eq_true, decide_eq_true_eq]
  constructor
  · rintro ⟨⟨⟨hab, hba⟩, hm⟩, hk⟩
    exact ⟨max a b, by omega⟩
  · rintro ⟨x, hax, hxa, hbx, hxb⟩
    omega

/-- Two claims conflict when some store address lies in both ranges and one of them at least is exclusive (R51). -/
theorem Claim.conflicts_iff {c d : Claim} : c.conflicts d = true ↔
    (∃ x, c.first ≤ x ∧ x < c.first + c.count ∧ d.first ≤ x ∧ x < d.first + d.count) ∧
      (c.exclusive = true ∨ d.exclusive = true) := by
  rw [Claim.conflicts, Bool.and_eq_true, Bool.or_eq_true, rangesOverlap_iff]

/-! ### Claims held by other slots -/

/-- A list of claims is clear when none of them conflicts with a claim that a busy slot other than `i` holds. -/
theorem State.clearOfClaims_iff {i : SlotId} {cs : List Claim} : s.clearOfClaims i cs = true ↔
    ∀ (j : SlotId) (sl : Slot), j ≠ i → s.slot j = some sl → ∀ d ∈ sl.claims, ∀ c ∈ cs, c.conflicts d = false := by
  simp only [State.clearOfClaims, List.all_eq_true, State.mem_busySlots, Prod.forall, Bool.or_eq_true, decide_eq_true_eq,
    Bool.not_eq_true']
  constructor
  · intro hclear j sl hji hslot
    exact (hclear j sl hslot).resolve_left hji
  · intro hothers j sl hslot
    exact or_iff_not_imp_left.mpr fun hji => hothers j sl hji hslot

end Sys2Proof.Machine

namespace Sys2Proof.Proofs

open Sys2Proof.Machine

/-- Settles O37: conflict by the address the two ranges share, and clearance by membership in the busy slots. -/
theorem claimsConflictAsR51Says : Obligations.ClaimsConflictAsR51Says :=
  ⟨fun _ _ => Claim.conflicts_iff, fun _ _ _ => State.clearOfClaims_iff⟩

end Sys2Proof.Proofs
end

section
/-! PROOFS. FIND: what its six tests say, what the mask leaves of them, and what one position comes to (R114). -/

namespace Sys2Proof.Machine

variable {st : Store} {k : Nat}

/-! ### An operand's word -/

/-- A sound word of an operand is read. -/
theorem readAt_sound {o : Operand} (hsound : (st.at (o.first + k)).sound = true) :
    readAt st o k = .ok (st.at (o.first + k)).contents := by
  rw [readAt, Store.read_sound hsound]

/-- A damaged word of an operand is a fault at its offset in the operand's segment (R35). -/
theorem readAt_damaged {o : Operand} (hdamaged : (st.at (o.first + k)).sound = false) :
    readAt st o k = .error { offset := o.offset + k, table := false } := by
  rw [readAt, Store.read_damaged hdamaged]

/-! ### The six tests -/

section Tests

variable {m v : Word}

theorem FindTest.eq_holds_iff : FindTest.eq.holds m v = true ↔ m = v := decide_eq_true_iff

theorem FindTest.ne_holds_iff : FindTest.ne.holds m v = true ↔ m ≠ v := decide_eq_true_iff

theorem FindTest.lt_holds_iff : FindTest.lt.holds m v = true ↔ m.toNat < v.toNat := decide_eq_true_iff

theorem FindTest.gt_holds_iff : FindTest.gt.holds m v = true ↔ v.toNat < m.toNat := decide_eq_true_iff

theorem FindTest.anyset_holds_iff : FindTest.anyset.holds m v = true ↔ m ≠ 0 := decide_eq_true_iff

theorem FindTest.noneset_holds_iff : FindTest.noneset.holds m v = true ↔ m = 0 := decide_eq_true_iff

end Tests

/-- Of two words that are 0, EQ and NONESET alone hold. -/
theorem FindTest.holds_zero (t : FindTest) : t.holds 0 0 = decide (t = .eq ∨ t = .noneset) := by
  cases t <;> decide

/-- Under mask 0 nothing of either word takes part (R114). -/
theorem FindTest.holds_mask_zero (t : FindTest) (w v : Word) :
    t.holds (w &&& 0) (v &&& 0) = decide (t = .eq ∨ t = .noneset) := by
  rw [← FindTest.holds_zero t]
  congr 1 <;> exact BitVec.and_zero

/-- Under a mask of all ones the whole of both words takes part (R114). -/
theorem FindTest.holds_mask_allOnes (t : FindTest) (w v : Word) :
    t.holds (w &&& 0xFFFFFFFF) (v &&& 0xFFFFFFFF) = t.holds w v := by
  congr 1 <;> exact BitVec.and_allOnes

/-! ### One position -/

/-- At a sound word FIND applies its test to the masked word and the masked value, and changes nothing. -/
theorem findAt_sound {a : Operand} (t : FindTest) (v m acc : Word) (hsound : (st.at (a.first + k)).sound = true) :
    findAt st a t v m k acc =
      if t.holds ((st.at (a.first + k)).contents &&& m) (v &&& m) = true then .matched (st.at (a.first + k)).contents
      else .finished st acc none := by
  rw [findAt, readAt_sound hsound]

/-- At a damaged word FIND stops, whatever its test and its mask (R114, R35). -/
theorem findAt_damaged {a : Operand} (t : FindTest) (v m acc : Word) (hdamaged : (st.at (a.first + k)).sound = false) :
    findAt st a t v m k acc = .stopped { offset := a.offset + k, table := false } := by
  rw [findAt, readAt_damaged hdamaged]

end Sys2Proof.Machine

namespace Sys2Proof.Proofs

open Sys2Proof.Machine

/-- Settles O32: the table test by test, the two masks that leave nothing and everything of a word, and the two ways one
position of a FIND goes. -/
theorem findTestsMaskedWords : Obligations.FindTestsMaskedWords := by
  refine ⟨fun w v m => ?table, FindTest.holds_mask_zero, FindTest.holds_mask_allOnes, fun a t v m st k acc => ?position⟩
  case table =>
    exact ⟨FindTest.eq_holds_iff, FindTest.ne_holds_iff, FindTest.lt_holds_iff, FindTest.gt_holds_iff,
      FindTest.anyset_holds_iff, FindTest.noneset_holds_iff⟩
  case position =>
    constructor
    · rintro w hsound rfl
      exact findAt_sound t v m acc hsound
    · exact findAt_damaged t v m acc

end Sys2Proof.Proofs
end

section
/-! PROOFS. What the parts of an event leave unchanged, by how far they reach: links alone, what the part's own reaction
touches, and what the taking of a frame touches besides. -/

namespace Sys2Proof.Machine

variable {s t u : State}

/-- `t` differs from `s` in its links at most. -/
def State.linksOnly (s t : State) : Prop := t = { s with links := t.links }

/-- `t` differs from `s` in what resets, dispatch, the port's choice and the arbiters touch, at most. -/
def State.reacted (s t : State) : Prop :=
  t = { s with links := t.links, admissions := t.admissions, port := t.port, marker := t.marker, stride := t.stride }

/-- `t` differs from `s` in what the taking of frames and the reaction to them touch, at most: the Store, the store-fault
count, the lines and the model's own fields stay. -/
def State.took (s t : State) : Prop :=
  t = { s with
    links := t.links, admissions := t.admissions, segments := t.segments, watches := t.watches, port := t.port
    marker := t.marker, stride := t.stride }

/-! ### They compose, each is the next -/

theorem State.linksOnly_refl (s : State) : s.linksOnly s := rfl

theorem State.reacted_refl (s : State) : s.reacted s := rfl

theorem State.took_refl (s : State) : s.took s := rfl

theorem State.linksOnly.trans (hst : s.linksOnly t) (htu : t.linksOnly u) : s.linksOnly u :=
  Eq.trans htu (congrArg (fun x : State => { x with links := u.links }) hst)

theorem State.reacted.trans (hst : s.reacted t) (htu : t.reacted u) : s.reacted u :=
  Eq.trans htu (congrArg (fun x : State =>
    { x with links := u.links, admissions := u.admissions, port := u.port, marker := u.marker, stride := u.stride }) hst)

theorem State.took.trans (hst : s.took t) (htu : t.took u) : s.took u :=
  Eq.trans htu (congrArg (fun x : State =>
    { x with
      links := u.links, admissions := u.admissions, segments := u.segments, watches := u.watches, port := u.port
      marker := u.marker, stride := u.stride }) hst)

theorem State.linksOnly.reacted (h : s.linksOnly t) : s.reacted t := by
  unfold State.linksOnly at h; rw [h]; rfl

theorem State.reacted.took (h : s.reacted t) : s.took t := by
  unfold State.reacted at h; rw [h]; rfl

theorem State.took.store_eq (h : s.took t) : t.store = s.store := (congrArg State.store h :)

theorem State.took.faults_eq (h : s.took t) : t.faults = s.faults := (congrArg State.faults h :)

theorem State.took.rstn_eq (h : s.took t) : t.rstn = s.rstn := (congrArg State.rstn h :)

theorem State.took.freeCount_eq (h : s.took t) : t.freeCount = s.freeCount := (congrArg State.freeCount h :)

theorem State.reacted.watches_eq (h : s.reacted t) : t.watches = s.watches := (congrArg State.watches h :)

theorem State.reacted.segments_eq (h : s.reacted t) : t.segments = s.segments := (congrArg State.segments h :)

theorem State.reacted.watch_eq (h : s.reacted t) (id : WatchId) : t.watch id = s.watch id := by
  unfold State.watch; rw [h.watches_eq]

theorem State.linksOnly.port_eq (h : s.linksOnly t) : t.port = s.port := (congrArg State.port h :)

theorem State.linksOnly.stride_eq (h : s.linksOnly t) : t.stride = s.stride := (congrArg State.stride h :)

theorem State.linksOnly.admissions_eq (h : s.linksOnly t) : t.admissions = s.admissions := (congrArg State.admissions h :)

theorem State.linksOnly_updLink (n : LinkId) (f : Link → Link) : s.linksOnly (s.updLink n f) := rfl

theorem State.linksOnly_setSlot (i : SlotId) (v : Option Slot) : s.linksOnly (s.setSlot i v) := rfl

theorem State.linksOnly_answerOk (n : LinkId) (tag : Tag) (ws : List Word) : s.linksOnly (s.answerOk n tag ws) := rfl

theorem State.took_setSegment (id : SegmentId) (g : Option Segment) : s.took (s.setSegment id g) := rfl

theorem State.linksOnly_foldl {β : Type} {f : State → β → State} (hf : ∀ s b, State.linksOnly s (f s b)) :
    ∀ (bs : List β) (s : State), s.linksOnly (bs.foldl f s)
  | [], s => s.linksOnly_refl
  | b :: bs, s => (hf s b).trans (State.linksOnly_foldl hf bs (f s b))

theorem State.took_foldl {β : Type} {f : State → β → State} (hf : ∀ s b, State.took s (f s b)) :
    ∀ (bs : List β) (s : State), s.took (bs.foldl f s)
  | [], s => s.took_refl
  | b :: bs, s => (hf s b).trans (State.took_foldl hf bs (f s b))

/-! ### The reaction -/

theorem State.linksOnly_handleOutcome (i : SlotId) (o : Outcome) : s.linksOnly (s.handleOutcome i o) := by
  rcases s.handleOutcome_cases i o with ⟨_, he⟩ | ⟨sl, _, ⟨_, he⟩ | ⟨_, he⟩ | ⟨_, he⟩⟩ <;> (rw [he]; rfl)

theorem State.linksOnly_completeLinkreset (t n : LinkId) (tag : Tag) : s.linksOnly (s.completeLinkreset t n tag) := by
  unfold State.completeLinkreset State.answerLinkreset
  split
  · rfl
  · split <;> rfl

theorem State.linksOnly_finishLinkreset (t : LinkId) : s.linksOnly (s.finishLinkreset t) := by
  rcases s.finishLinkreset_cases t with he | ⟨n, tag, _, _, he⟩
  · rw [he]; exact s.linksOnly_refl
  · rw [he]; exact State.linksOnly_completeLinkreset t n tag

theorem State.reacted_completeResets : s.reacted s.completeResets := by
  unfold State.completeResets
  split
  · split <;> rfl
  · exact (State.linksOnly_foldl (fun s t => State.linksOnly_finishLinkreset (s := s) t) linkIds s).reacted

theorem State.reacted_dispatch : s.reacted s.dispatch := by
  rcases s.dispatch_cases with he | ⟨i, sl, _, _, _, _, he⟩ <;> (rw [he]; rfl)

theorem State.reacted_portChoose : s.reacted s.portChoose := by
  rcases s.portChoose_cases with he | ⟨r, _, _, he⟩ | ⟨i, sl, _, _, _, _, he⟩ <;> (rw [he]; rfl)

theorem State.reacted_react : s.reacted s.react :=
  (State.reacted_completeResets.trans State.reacted_dispatch).trans State.reacted_portChoose

theorem State.reacted_arbitrate : s.reacted s.arbitrate := rfl

/-! ### Frames taken -/

theorem State.took_dropWatchesOn (seg : SegmentId) : s.took (s.dropWatchesOn seg) := by
  refine State.took_foldl (fun s id => ?_) _ s
  unfold State.dropWatchOn
  split
  · rfl
  · split <;> rfl

theorem State.took_takeData (n : LinkId) (tag : Tag) (r : DataRequest) : s.took (s.takeData n tag r) := by
  rcases s.takeData_cases n tag r with ⟨e, he⟩ | ⟨k, job, _, _, _, _, he⟩
  · rw [he]; rfl
  · rw [he, State.admission]
    dsimp only
    split <;> rfl

theorem State.linksOnly_takeClaim (n : LinkId) (tag : Tag) : s.linksOnly (s.takeClaim n tag) := by
  unfold State.takeClaim
  split
  · rfl
  · split <;> rfl

theorem State.linksOnly_cancelTarget (i : SlotId) (sl : Slot) : s.linksOnly (s.cancelTarget i sl) := by
  unfold State.cancelTarget
  split
  · exact State.linksOnly_handleOutcome i _
  · exact State.linksOnly_handleOutcome i _
  · exact State.linksOnly_handleOutcome i _
  · rfl
  · rfl
  · rfl

theorem State.linksOnly_takeCancel (n : LinkId) (tag : Tag) : s.linksOnly (s.takeCancel n tag) := by
  unfold State.takeCancel
  split
  · rfl
  · exact (State.linksOnly_cancelTarget _ _).trans (State.linksOnly_answerOk _ _ _)

theorem State.took_takeDefine (n : LinkId) (tag : Tag) (id : SegmentId) (base length : Nat) (rights : Vector Right 4) :
    s.took (s.takeDefine n tag id base length rights) := by
  unfold State.takeDefine
  split
  · rfl
  · split
    · rfl
    · split
      · rfl
      · dsimp only
        split
        · exact ((State.took_dropWatchesOn id).trans (State.took_setSegment _ _)).trans
            (State.linksOnly_answerOk _ _ _).reacted.took
        · rfl

theorem State.took_takeDrop (n : LinkId) (tag : Tag) (id : SegmentId) : s.took (s.takeDrop n tag id) := by
  unfold State.takeDrop
  split
  · rfl
  · split
    · rfl
    · split
      · rfl
      · exact ((State.took_dropWatchesOn id).trans (State.took_setSegment _ _)).trans
            (State.linksOnly_answerOk _ _ _).reacted.took

theorem State.took_resetLinks (targets : LinkId → Bool) (cause : ResetCause) : s.took (s.resetLinks targets cause) := by
  unfold State.resetLinks State.dropWatchesOf; rfl

theorem State.took_takeRequest (n : LinkId) (tag : Tag) (r : Request) : s.took (s.takeRequest n tag r) := by
  cases r with
  | data r => exact State.took_takeData n tag r
  | claim => exact (State.linksOnly_takeClaim n tag).reacted.took
  | cancel => exact (State.linksOnly_takeCancel n tag).reacted.took
  | watch seg off c m w =>
    simp only [State.takeRequest, State.takeWatch]
    split
    · rfl
    · split <;> rfl
  | rearm id =>
    simp only [State.takeRequest, State.takeRearm]
    split
    · rfl
    · split <;> rfl
  | unwatch id =>
    simp only [State.takeRequest, State.takeUnwatch]
    split <;> rfl
  | define id b len r => exact State.took_takeDefine n tag id b len r
  | drop id => exact State.took_takeDrop n tag id
  | linkset t p =>
    simp only [State.takeRequest, State.takeLinkset]
    split <;> rfl
  | query q =>
    cases q with
    | link m =>
      simp only [State.takeRequest, State.takeQuery]
      split <;> rfl
    | part => rfl
    | slots => rfl
    | segment id => rfl
    | watches => rfl
  | linkreset t =>
    simp only [State.takeRequest, State.takeLinkreset]
    split
    · rfl
    · split
      · rfl
      · refine State.took.trans ?_ (State.took_resetLinks _ _)
        unfold State.awaitReset
        split <;> rfl
  | restart =>
    simp only [State.takeRequest, State.takeRestart]
    split
    · rfl
    · exact State.took_resetLinks _ _

theorem State.took_takeFrame (n : LinkId) (f : Frame) : s.took (s.takeFrame n f) := by
  unfold State.takeFrame
  split
  · rfl
  · exact State.took_takeRequest _ _ _

theorem State.took_intake (n : LinkId) : s.took (s.intake n) := by
  unfold State.intake
  split
  · exact s.took_refl
  · split
    · exact State.took.trans (t := s.updLink n _) rfl ((State.took_takeFrame _ _).trans State.reacted_react.took)
    · exact s.took_refl

theorem State.took_settle : s.took s.settle :=
  (State.reacted_react.took.trans (State.took_foldl (fun s n => State.took_intake (s := s) n) linkIds _)).trans
    State.reacted_arbitrate.took

@[simp] theorem State.settle_store : s.settle.store = s.store := State.took_settle.store_eq

/-! ### Reports and outcomes -/

/-- The watches act on a report: links and Watch Table change at most. -/
theorem State.took_handReport (r : Option WriteReport) : s.took (s.handReport r) := by
  cases r with
  | none => rfl
  | some r =>
    unfold State.handReport
    refine State.took_foldl (fun s id => ?_) watchIds s
    unfold State.reportTo
    split
    · rfl
    · split
      · rfl
      · split <;> rfl

@[simp] theorem State.handReport_store (r : Option WriteReport) : (s.handReport r).store = s.store :=
  (State.took_handReport r).store_eq

@[simp] theorem State.handleOutcome_store (i : SlotId) (o : Outcome) : (s.handleOutcome i o).store = s.store :=
  (State.linksOnly_handleOutcome i o).reacted.took.store_eq

end Sys2Proof.Machine
end

section
/-! PROOFS. The induction over steps, once: a step is made of the changes that `State.Kept` lists, so a predicate that each
of them keeps is kept by every step. -/

namespace Sys2Proof.Machine

/-- Each change that an event is made of keeps `P`, under what the event has checked before it makes the change. -/
structure State.Kept (P : State → Prop) : Prop where
  withPending : ∀ {s} rest, P s → P (s.withPending rest)
  freeCount : ∀ {s : State}, P s → P { s with freeCount := s.freeCount + 1 }
  completeResets : ∀ {s}, P s → P s.completeResets
  dispatch : ∀ {s}, P s → P s.dispatch
  portChoose : ∀ {s}, P s → P s.portChoose
  leaveInbox : ∀ {s n f rest}, (s.link n).inbox = f :: rest → P s → P (s.updLink n fun l => { l with inbox := rest })
  takeFrame : ∀ {s n} f, s.intakeAble n = true → P s → P (s.takeFrame n f)
  arbitrate : ∀ {s}, P s → P s.arbitrate
  ticks : ∀ {s} k, P s → P (s.ticks k)
  budgetExpires : ∀ {s i sl}, s.slot i = some sl → sl.budgetTimer.isSome = true → P s → P (s.budgetExpires i sl)
  holdExpires : ∀ {s i sl}, s.slot i = some sl → sl.holdTimer.isSome = true → P s → P (s.holdExpires i sl)
  beginFrame : ∀ {s} n, P s → P (s.updLink n Link.beginFrame)
  endFrame : ∀ {s} n checked, P s → P (s.updLink n fun l => l.endFrame checked)
  seeLow : ∀ {s} n, P s → P (s.updLink n Link.seeLow)
  hostHold : ∀ {s} n b, P s → P (s.updLink n fun l => { l with hostHold := b })
  endTransmission : ∀ {s} n, P s → P (s.updLink n Link.endTransmission)
  completeDirect : ∀ {s a}, s.port = .direct a → a.inStore = true → P s → P (s.completeDirect a)
  completeStride : ∀ {s r sl}, s.port = .stride r → s.slot r.owner = some sl → sl.state = .running → r.inStore sl = true →
    P s → P (s.completeStride r sl)
  completeStopping : ∀ {s r sl}, s.port = .stride r → s.slot r.owner = some sl → sl.state = .stopping →
    r.inStore sl = true → P s → P (s.completeStopping r sl)
  upset : ∀ {s : State} (a : Half) c, P s → P { s with store := s.store.upset a.toNat c, freeCount := s.freeCount + 1 }
  powerOn : ∀ {s}, P s → P { s.cleared with opened := false, port := .clear }
  clearStore : ∀ {s : State}, s.port = .clear → P s → P { s with store := [], port := .idle }
  rstn : ∀ {s : State} b, P s → P { s with rstn := b }
  openService : ∀ {s}, P s → P s.openService
  rstnFall : ∀ {s} extent, s.port ≠ .clear → s.accessInStore = true → P s → P { s.cleared with
    rstn := false, store := s.abandonedStore extent, freeCount := s.freeCount + 1, port := .idle }

/-- The stride in progress and its slot, in the given state. -/
theorem State.strideSlot_some {s : State} {st : SlotState} {r : Stride} {sl : Slot} (h : s.strideSlot st = some (r, sl)) :
    s.port = .stride r ∧ s.slot r.owner = some sl ∧ sl.state = st := by
  unfold State.strideSlot at h
  split at h
  · split at h
    · split at h
      · cases h; exact ⟨‹_›, ‹_›, ‹_›⟩
      · cases h
    · cases h
  · cases h

namespace State.Kept

variable {P : State → Prop} (hP : State.Kept P) {s t : State}

include hP

theorem react (h : P s) : P s.react := hP.portChoose (hP.dispatch (hP.completeResets h))

theorem intake (n : LinkId) (h : P s) : P (s.intake n) := by
  unfold State.intake
  split
  · exact h
  · rename_i f rest hbox
    split
    · rename_i hable
      refine hP.react (hP.takeFrame f ?_ (hP.leaveInbox hbox h))
      rw [← hable]
      simp only [State.intakeAble, State.directBusy, State.clearing, State.link_updLink_self, State.updLink_port,
        State.updLink_rstn]
      rfl
    · exact h

theorem intakes : ∀ (ns : List LinkId) {s : State}, P s → P (ns.foldl State.intake s)
  | [], _, h => h
  | n :: ns, _, h => intakes ns (hP.intake n h)

theorem settle (h : P s) : P s.settle := hP.arbitrate (hP.intakes linkIds (hP.react h))

theorem deliver (n : LinkId) (f : Frame) (h : P s) : P (s.deliver n f) := by
  have hsteps : (s.updLink n fun l => l.receive f) =
      ((s.updLink n Link.seeLow).updLink n Link.beginFrame).updLink n fun l => l.endFrame (receiveFrame f) := by
    rw [State.updLink_updLink, State.updLink_updLink]; rfl
  unfold State.deliver
  rw [hsteps]
  exact hP.settle (hP.endFrame n _ (hP.beginFrame n (hP.seeLow n h)))

theorem budgetExpiry (i : SlotId) (h : P s) : P (s.budgetExpiry i) := by
  unfold State.budgetExpiry
  split
  · exact h
  · split
    · exact hP.settle (hP.budgetExpires ‹_› ‹_› h)
    · exact h

theorem holdExpiry (i : SlotId) (h : P s) : P (s.holdExpiry i) := by
  unfold State.holdExpiry
  split
  · exact h
  · split
    · exact hP.settle (hP.holdExpires ‹_› ‹_› h)
    · exact h

theorem timebase (h : P s) : P s.timebase := by
  unfold State.timebase
  split
  · exact hP.settle h
  · split
    · unfold State.expire
      split
      · exact hP.budgetExpiry _ (hP.freeCount h)
      · exact hP.holdExpiry _ (hP.freeCount h)
    · exact hP.ticks 1 h

theorem passUntil (timer : Slot → Option Nat) (i : SlotId) : ∀ (fuel : Nat) {s : State}, P s → P (s.passUntil timer i fuel)
  | 0, _, h => h
  | fuel + 1, s, h => by
    unfold State.passUntil
    split
    · exact h
    · exact h
    · split
      · exact passUntil timer i fuel (hP.timebase h)
      · exact passUntil timer i fuel (hP.ticks _ h)

theorem directAccessComplete (h : P s) (he : execDirectAccessComplete s = .next t) : P t := by
  unfold execDirectAccessComplete at he
  split at he
  · split at he
    · rw [← Host.Outcome.next.inj he]
      exact hP.settle (hP.completeDirect ‹_› ‹_› h)
    · cases he
  · rwa [← Host.Outcome.next.inj he]

theorem strideComplete (h : P s) (he : execStrideComplete s = .next t) : P t := by
  unfold execStrideComplete at he
  split at he
  · rename_i r sl hr
    obtain ⟨hport, hslot, hstate⟩ := State.strideSlot_some hr
    split at he
    · rw [← Host.Outcome.next.inj he]
      exact hP.settle (hP.completeStride hport hslot hstate ‹_› h)
    · cases he
  · rwa [← Host.Outcome.next.inj he]

theorem stoppingStrideComplete (h : P s) (he : execStoppingStrideComplete s = .next t) : P t := by
  unfold execStoppingStrideComplete at he
  split at he
  · rename_i r sl hr
    obtain ⟨hport, hslot, hstate⟩ := State.strideSlot_some hr
    split at he
    · rw [← Host.Outcome.next.inj he]
      exact hP.settle (hP.completeStopping hport hslot hstate ‹_› h)
    · cases he
  · rwa [← Host.Outcome.next.inj he]

theorem transmissionComplete (n : LinkId) (h : P s) (he : execTransmissionComplete n s = .next t) : P t := by
  unfold execTransmissionComplete at he
  split at he
  · rwa [← Host.Outcome.next.inj he]
  · rw [← Host.Outcome.next.inj he]
    exact hP.settle (hP.endTransmission n h)

theorem startUpClearComplete (h : P s) (he : execStartUpClearComplete s = .next t) : P t := by
  unfold execStartUpClearComplete at he
  split at he
  · rename_i hc
    have hclear := hP.clearStore (of_decide_eq_true hc) h
    rw [← Host.Outcome.next.inj he]
    split
    · exact hP.settle (hP.openService hclear)
    · exact hclear
  · rwa [← Host.Outcome.next.inj he]

theorem rstnRises (h : P s) (he : execRstnRise s = .next t) : P t := by
  unfold execRstnRise at he
  split at he
  · rwa [← Host.Outcome.next.inj he]
  · split at he
    · rw [← Host.Outcome.next.inj he]; exact hP.rstn true h
    · rw [← Host.Outcome.next.inj he]; exact hP.settle (hP.openService (hP.rstn true h))

theorem rstnFalls (h : P s) (he : execRstnFall s = .next t) : P t := by
  unfold execRstnFall at he
  split at he
  · rwa [← Host.Outcome.next.inj he]
  · split at he
    · rw [← Host.Outcome.next.inj he]; exact hP.rstn false h
    · rename_i hc
      split at he
      · rw [← Host.Outcome.next.inj he]
        exact hP.rstnFall _ (fun hp => hc (decide_eq_true hp)) ‹_› h
      · cases he

/-- Every command keeps `P`: the rows that carry a frame are its arrival, the others by their own meanings. -/
theorem exec {c : Instr} (h : P s) (he : exec c s = .next t) : P t := by
  have row : ∀ {n f}, c.frame = some (n, f) → P t := by
    intro n f hf
    rw [exec_frame hf] at he
    rw [← Host.Outcome.next.inj he]
    exact hP.deliver n f h
  cases c
  case powerOn => rw [← Host.Outcome.next.inj he]; exact hP.powerOn h
  case startUpClearComplete => exact hP.startUpClearComplete h he
  case rstnFall => exact hP.rstnFalls h he
  case rstnRise => exact hP.rstnRises h he
  case storeUpset a => rw [← Host.Outcome.next.inj he]; exact hP.settle (hP.upset a _ h)
  case frameBegin n => rw [← Host.Outcome.next.inj he]; exact hP.settle (hP.beginFrame n h)
  case frameEnd n bits => rw [← Host.Outcome.next.inj he]; exact hP.settle (hP.endFrame n _ h)
  case hhldRise n => rw [← Host.Outcome.next.inj he]; exact hP.settle (hP.hostHold n true h)
  case hhldFall n => rw [← Host.Outcome.next.inj he]; exact hP.settle (hP.hostHold n false h)
  case transmissionComplete n => exact hP.transmissionComplete n h he
  case budgetExpiry n k => rw [← Host.Outcome.next.inj he]; exact hP.budgetExpiry _ (hP.passUntil _ _ _ h)
  case holdExpiry n k => rw [← Host.Outcome.next.inj he]; exact hP.holdExpiry _ (hP.passUntil _ _ _ h)
  case directAccessComplete => exact hP.directAccessComplete h he
  case strideComplete => exact hP.strideComplete h he
  case stoppingStrideComplete => exact hP.stoppingStrideComplete h he
  case ifrSeenLow n => rw [← Host.Outcome.next.inj he]; exact hP.settle (hP.seeLow n h)
  all_goals exact row rfl

/-- Every step keeps `P`. -/
theorem step (h : P s) (he : step s = .next t) : P t := by
  unfold Machine.step at he
  split at he
  · exact hP.exec (hP.withPending _ h) he
  · rw [← Host.Outcome.next.inj he]; exact hP.timebase h

end State.Kept
end Sys2Proof.Machine
end

section
/-! PROOFS. The Store's one form: every access writes inside the Store, and every step keeps the form (R32, R38). -/

namespace Sys2Proof.Machine

variable {s t : State}

/-! ### Where a stride writes -/

theorem Direction.after_iterate_upward (i k : Nat) : Direction.upward.after^[i] k = k + i := by
  induction i generalizing k with
  | zero => rfl
  | succ i ih => rw [Function.iterate_succ_apply, ih, Direction.after_upward]; omega

theorem Direction.after_iterate_downward (i k : Nat) : Direction.downward.after^[i] k = k - i := by
  induction i generalizing k with
  | zero => rfl
  | succ i ih => rw [Function.iterate_succ_apply, ih, Direction.after_downward]; omega

theorem writeAt_store {o : Operand} {st st' : Store} {k : Nat} {acc acc' v : Word} {mark : Option Bool}
    (h : writeAt st o k acc v = .finished st' acc' mark) : ∃ v, st' = st.write (o.first + k) v := by
  unfold writeAt at h
  cases h
  exact ⟨v, rfl⟩

/-- A position that is done left the Store as it was, or wrote the written operand's word. -/
theorem Job.position_store {j : Job Operand} {st st' : Store} {k : Nat} {acc acc' : Word} {mark : Option Bool}
    (h : j.position st k acc = .finished st' acc' mark) : st' = st ∨ ∃ v, st' = st.write (j.written.first + k) v := by
  cases j with
  | read a => simp only [Job.position] at h; cases h; exact .inl rfl
  | write a => simp only [Job.position] at h; cases h; exact .inl rfl
  | exchange a c m v => simp only [Job.position] at h; cases h; exact .inl rfl
  | copy a b =>
    simp only [Job.position, copyAt] at h
    split at h
    · cases h
    · exact .inr (writeAt_store h)
  | find a t v m =>
    simp only [Job.position, findAt] at h
    split at h
    · cases h
    · split at h
      · cases h
      · cases h; exact .inl rfl
  | fold a f i =>
    simp only [Job.position, foldAt] at h
    split at h
    · cases h
    · cases h; exact .inl rfl
  | apply a f x =>
    simp only [Job.position, applyAt] at h
    split at h
    · split at h
      · cases h
      · exact .inr (writeAt_store h)
    · exact .inr (writeAt_store h)
  | map a t m =>
    simp only [Job.position, mapAt] at h
    split at h
    · cases h
    · split at h
      · cases h
      · exact .inr (writeAt_store h)

/-- Positions whose written words exist keep the one form. -/
theorem Job.wf_positions (j : Job Operand) (d : Direction) : ∀ (n k : Nat) (st : Store) (acc : Word), st.wf = true →
    (∀ i, i < n → j.written.first + d.after^[i] k < storeSize) → (j.positions d n k st acc).store.wf = true
  | 0, _, _, _, hwf, _ => hwf
  | n + 1, k, st, acc, hwf, hin => by
    rw [Job.positions_succ]
    split
    · rename_i st' acc' mark hp
      have hwf' : st'.wf = true := by
        rcases Job.position_store hp with rfl | ⟨v, rfl⟩
        · exact hwf
        · exact Store.wf_write v (hin 0 (Nat.succ_pos n)) hwf
      exact Job.wf_positions j d n (d.after k) st' acc' hwf' fun i hi => hin (i + 1) (Nat.succ_lt_succ hi)
    · exact hwf
    · exact hwf

/-- The words a stride may write exist when its range lies in the Store. -/
theorem Stride.written_lt {r : Stride} {sl : Slot} (h : r.inStore sl = true) (i : Nat) (hi : i < r.size) :
    sl.job.written.first + sl.cursor.dir.after^[i] r.start < storeSize := by
  have hrange : Machine.inStore sl.job.written.first (r.top sl.cursor.dir) = true := by
    unfold Stride.inStore at h
    split at h
    · rename_i hj
      rw [hj]; exact ((Bool.and_eq_true _ _).mp h).2
    · rename_i hj
      rw [hj]; exact ((Bool.and_eq_true _ _).mp h).1
    · rename_i hcopy _
      unfold Job.written
      split
      · exact absurd ‹_› (hcopy _ _)
      · exact h
  simp only [Machine.inStore, decide_eq_true_eq] at hrange
  cases hd : sl.cursor.dir with
  | upward =>
    simp only [hd, Stride.top] at hrange
    rw [Direction.after_iterate_upward]; omega
  | downward =>
    simp only [hd, Stride.top] at hrange
    rw [Direction.after_iterate_downward]; omega

theorem Stride.wf_run {r : Stride} {sl : Slot} {st : Store} (h : r.inStore sl = true) (hwf : st.wf = true) :
    (r.run sl st).store.wf = true :=
  Job.wf_positions _ _ _ _ _ _ hwf (Stride.written_lt h)

theorem Stride.wf_abandoned {r : Stride} {sl : Slot} {st : Store} (extent : Nat) (h : r.inStore sl = true)
    (hwf : st.wf = true) : (r.abandoned sl st extent).wf = true :=
  Job.wf_positions _ _ _ _ _ _ hwf fun i hi => Stride.written_lt h i (by omega)

/-! ### Direct accesses -/

theorem wf_runExchange {r : Operand} {c m v : Word} {st : Store} (h : r.first < storeSize) (hwf : st.wf = true) :
    (runExchange st r c m v).store.wf = true := by
  unfold runExchange
  split
  · exact hwf
  · split
    · exact Store.wf_write v h hwf
    · exact hwf

theorem runRead_store (st : Store) (r : Operand) : (runRead st r).store = st := by
  unfold runRead
  split <;> rfl

theorem DirectAccess.wf_run {a : DirectAccess} {st : Store} (h : a.inStore = true) (hwf : st.wf = true) :
    (a.run st).store.wf = true := by
  unfold DirectAccess.inStore at h
  unfold DirectAccess.run
  split <;> rename_i hj <;> simp only [hj, Machine.inStore, decide_eq_true_eq] at h
  · rwa [runRead_store]
  · exact Store.wf_writeRun _ h hwf
  · exact wf_runExchange (by omega) hwf
  · exact hwf

theorem DirectAccess.wf_abandoned {a : DirectAccess} {st : Store} (extent : Nat) (h : a.inStore = true)
    (hwf : st.wf = true) : (a.abandoned st extent).wf = true := by
  unfold DirectAccess.inStore at h
  unfold DirectAccess.abandoned
  split <;> rename_i hj <;> simp only [hj, Machine.inStore, decide_eq_true_eq] at h
  · exact Store.wf_writeRun _ (by rw [List.length_take]; omega) hwf
  · split
    · exact hwf
    · exact wf_runExchange (by omega) hwf
  · exact hwf

theorem State.wf_abandonedStore (extent : Nat) (h : s.accessInStore = true) (hwf : s.store.wf = true) :
    (s.abandonedStore extent).wf = true := by
  unfold State.accessInStore at h
  unfold State.abandonedStore
  split <;> rename_i hp <;> simp only [hp] at h
  · exact DirectAccess.wf_abandoned extent h hwf
  · split <;> rename_i hs
    · simp only [hs] at h
      exact Stride.wf_abandoned extent h hwf
    · exact hwf
  · exact hwf

/-! ### The Store after each completion -/

theorem State.settleStride_store (i : SlotId) (sl : Slot) (run : StrideRun) :
    (s.settleStride i sl run).store = s.store := by
  unfold State.settleStride
  split
  · exact s.handleOutcome_store i _
  · split
    · exact s.handleOutcome_store i _
    · split
      · exact s.handleOutcome_store i _
      · split <;> rfl

theorem State.completeDirect_store (a : DirectAccess) : (s.completeDirect a).store = (a.run s.store).store := by
  simp only [State.completeDirect]
  split
  · rw [State.handleOutcome_store, State.handReport_store]
  · rw [State.handReport_store]

theorem State.completeStride_store (r : Stride) (sl : Slot) : (s.completeStride r sl).store = (r.run sl s.store).store := by
  simp only [State.completeStride, State.settleStride_store, State.setSlot_store, State.handReport_store]

theorem State.completeStopping_store (r : Stride) (sl : Slot) :
    (s.completeStopping r sl).store = (r.run sl s.store).store := by
  simp only [State.completeStopping, State.setSlot_store, State.handReport_store]

/-- The one form is kept by every change: only accesses, their abandonment, an upset and the start-up clear touch the
Store. -/
theorem State.kept_storeForm : State.Kept fun s => s.store.wf = true where
  withPending _ h := h
  freeCount h := h
  completeResets h := by rwa [State.reacted_completeResets.took.store_eq]
  dispatch h := by rwa [State.reacted_dispatch.took.store_eq]
  portChoose h := by rwa [State.reacted_portChoose.took.store_eq]
  leaveInbox _ h := h
  takeFrame f _ h := by rwa [(State.took_takeFrame _ f).store_eq]
  arbitrate h := h
  ticks _ h := h
  budgetExpires _ _ h := h
  holdExpires _ _ h := h
  beginFrame _ h := h
  endFrame _ _ h := h
  seeLow _ h := h
  hostHold _ _ h := h
  endTransmission _ h := h
  completeDirect _ hin h := by rw [State.completeDirect_store]; exact DirectAccess.wf_run hin h
  completeStride _ _ _ hin h := by rw [State.completeStride_store]; exact Stride.wf_run hin h
  completeStopping _ _ _ hin h := by rw [State.completeStopping_store]; exact Stride.wf_run hin h
  upset a c h := Store.wf_upset c a.isLt h
  powerOn h := h
  clearStore _ _ := Store.wf_empty
  rstn _ h := h
  openService h := h
  rstnFall extent _ hin h := State.wf_abandonedStore extent hin h

end Sys2Proof.Machine

namespace Sys2Proof.Proofs

open Sys2Proof.Machine

/-- Settles O55: the induction over steps, for the predicate that the Store is in its one form. -/
theorem storeFormIsKept : Obligations.StoreFormIsKept := fun _ _ hwf hstep => State.kept_storeForm.step hwf hstep

end Sys2Proof.Proofs
end

section
/-! PROOFS. The bounds of queues, buffers and counts: each operation on a link keeps the link's, each operation on the part
keeps the part's (R36, R129, R151, R156, R166, R178). -/

namespace Sys2Proof.Machine

variable {s : State} {l : Link}

/-! ### One link -/

theorem Link.bounded_iff : l.bounded = true ↔
    l.inbox.length ≤ 2 ∧ (l.receiver = .assembling → l.inbox.length < 2) ∧ l.notices.length ≤ 16 ∧
      l.badFrames ≤ 65535 ∧ l.lost ≤ 65535 ∧ l.dropped ≤ 65535 ∧ l.streak ≤ 4 := by
  simp only [Link.bounded, Bool.and_eq_true, decide_eq_true_eq, Bool.or_eq_true, Bool.not_eq_true', decide_eq_false_iff_not,
    and_assoc, imp_iff_not_or]

theorem countUp_le (max n : Nat) : countUp max n ≤ max := Nat.min_le_right _ _

theorem Link.bounded_queueNotice (m : Notice) (h : l.bounded = true) : (l.queueNotice m).bounded = true := by
  unfold Link.queueNotice
  split
  · exact h
  · obtain ⟨hbox, hasm, hnote, hbad, hlost, hdrop, hstreak⟩ := Link.bounded_iff.mp h
    split
    · exact Link.bounded_iff.mpr ⟨hbox, hasm, hnote, hbad, countUp_le _ _, hdrop, hstreak⟩
    · refine Link.bounded_iff.mpr ⟨hbox, hasm, ?_, hbad, hlost, hdrop, hstreak⟩
      simp only [noticeRoom] at *
      simp only [List.length_append, List.length_singleton]; omega

theorem Link.bounded_reopen (h : l.bounded = true) : l.reopen.bounded = true := by
  obtain ⟨_, _, hrest⟩ := Link.bounded_iff.mp h
  exact Link.bounded_iff.mpr ⟨Nat.zero_le _, fun _ => Nat.zero_lt_two, hrest⟩

theorem Link.bounded_seeLow (h : l.bounded = true) : l.seeLow.bounded = true := by
  unfold Link.seeLow
  split
  · obtain ⟨hbox, _, hrest⟩ := Link.bounded_iff.mp h
    exact Link.bounded_iff.mpr ⟨hbox, fun e => (nomatch e), hrest⟩
  · exact h

theorem Link.bounded_beginFrame (h : l.bounded = true) : l.beginFrame.bounded = true := by
  unfold Link.beginFrame
  split
  · obtain ⟨hbox, _, hrest⟩ := Link.bounded_iff.mp h
    refine Link.bounded_iff.mpr ⟨hbox, ?_, hrest⟩
    dsimp only
    split
    · exact fun _ => ‹_›
    · exact fun e => (nomatch e)
  · exact h

theorem Link.bounded_discardFrame (why : BadFrame) (h : l.bounded = true) : (l.discardFrame why).bounded = true := by
  obtain ⟨hbox, hasm, hnote, _, hrest⟩ := Link.bounded_iff.mp h
  exact Link.bounded_queueNotice _ (Link.bounded_iff.mpr ⟨hbox, hasm, hnote, countUp_le _ _, hrest⟩)

theorem Link.bounded_endFrame (checked : Except BadFrame Frame) (h : l.bounded = true) :
    (l.endFrame checked).bounded = true := by
  obtain ⟨hbox, hasm, hrest⟩ := Link.bounded_iff.mp h
  have hidle : Link.bounded { l with receiver := .idle } = true :=
    Link.bounded_iff.mpr ⟨hbox, fun e => (nomatch e), hrest⟩
  unfold Link.endFrame
  split
  · split
    · refine Link.bounded_iff.mpr ⟨?_, fun e => (nomatch e), hrest⟩
      have := hasm ‹_›
      simp only [List.length_append, List.length_singleton]; omega
    · exact Link.bounded_discardFrame _ hidle
  · exact Link.bounded_discardFrame _ hidle
  · exact Link.bounded_seeLow h
  · exact h

theorem Link.bounded_leaveInbox {f : Frame} {rest : List Frame} (hbox : l.inbox = f :: rest) (h : l.bounded = true) :
    Link.bounded { l with inbox := rest } = true := by
  obtain ⟨hlen, hasm, hrest⟩ := Link.bounded_iff.mp h
  rw [hbox, List.length_cons] at hlen hasm
  refine Link.bounded_iff.mpr ⟨by dsimp only; omega, fun e => ?_, hrest⟩
  have := hasm e
  dsimp only; omega

theorem Link.bounded_endTransmission (h : l.bounded = true) : l.endTransmission.bounded = true := by
  obtain ⟨hbox, hasm, hnote, hbad, hlost, hdrop, hstreak⟩ := Link.bounded_iff.mp h
  unfold Link.endTransmission
  split
  · exact h
  · exact h
  · have hfreed : Link.bounded { l with transmitter := .free, outLine := .gap, notices := l.notices.drop 1 } = true :=
      Link.bounded_iff.mpr ⟨hbox, hasm, by simp only [List.length_drop]; omega, hbad, hlost, hdrop, hstreak⟩
    unfold Link.queueOverflow
    split
    · exact hfreed
    · obtain ⟨hbox', hasm', hnote', hbad', _, hrest'⟩ := Link.bounded_iff.mp (Link.bounded_queueNotice (.overflow l.lost) hfreed)
      exact Link.bounded_iff.mpr ⟨hbox', hasm', hnote', hbad', Nat.zero_le _, hrest'⟩

theorem Link.bounded_arbitrate (h : l.bounded = true) : l.arbitrate.bounded = true := by
  obtain ⟨hbox, hasm, hnote, hbad, hlost, hdrop, hstreak⟩ := Link.bounded_iff.mp h
  unfold Link.arbitrate
  split
  · exact h
  · split
    · exact Link.bounded_iff.mpr ⟨hbox, hasm, hnote, hbad, hlost, hdrop, Nat.zero_le _⟩
    · rename_i hfirst
      split
      · refine Link.bounded_iff.mpr ⟨hbox, hasm, hnote, hbad, hlost, hdrop, ?_⟩
        simp only [Link.startReply]
        split
        · exact Nat.zero_le _
        · have : ¬ streakLimit ≤ l.streak := fun hs => hfirst ⟨‹_›, .inl hs⟩
          simp only [streakLimit] at this; omega
      · exact h

theorem Link.bounded_reset (cause : ResetCause) (inProgress : SlotIdx → Bool) (h : l.bounded = true) :
    (l.reset cause inProgress).bounded = true := by
  obtain ⟨hbox, hasm, hnote, _⟩ := Link.bounded_iff.mp h
  refine Link.bounded_iff.mpr ⟨hbox, hasm, ?_, Nat.zero_le _, Nat.zero_le _, Nat.zero_le _, Nat.zero_le _⟩
  simp only [Link.reset]
  split
  · rw [List.length_take]; omega
  · exact Nat.zero_le _

theorem Link.bounded_holdOutcome (k : SlotIdx) (sl : Slot) (o : Outcome) (h : l.bounded = true) :
    (l.holdOutcome k sl o).bounded = true := by
  simp only [Link.holdOutcome]
  split
  · exact Link.bounded_queueNotice _ h
  · exact h

theorem Link.bounded_dropHeld (k : SlotIdx) (sl : Slot) (h : l.bounded = true) : (l.dropHeld k sl).bounded = true := by
  have hq : ((l.setSlot k none).queueNotice (.dropped sl.tag sl.job.kind)).bounded = true := Link.bounded_queueNotice _ h
  obtain ⟨hbox, hasm, hnote, hbad, hlost, _, hstreak⟩ := Link.bounded_iff.mp hq
  exact Link.bounded_iff.mpr ⟨hbox, hasm, hnote, hbad, hlost, countUp_le _ _, hstreak⟩

theorem Link.bounded_atReset (n : LinkId) (b : Bool) : (Link.atReset n b).bounded = true := by
  simp [Link.bounded_iff, Link.atReset]

theorem Link.bounded_setParameter (p : Parameter) (h : l.bounded = true) : (l.setParameter p).bounded = true := by
  cases p <;> exact h

/-! ### The part -/

/-- A watch's missed count lies in its bound, and is 0 while the watch is ARMED (R129, R133). -/
def Watch.bounded (w : Watch) : Prop := w.missed ≤ 255 ∧ (w.fired = true ∨ w.missed = 0)

theorem State.bounded_iff : s.bounded = true ↔
    (∀ n, (s.link n).bounded = true) ∧ s.faults ≤ 65535 ∧ ∀ id w, s.watch id = some w → w.bounded := by
  simp only [State.bounded, Bool.and_eq_true, List.all_eq_true, mem_linkIds, mem_watchIds, true_imp_iff, decide_eq_true_eq,
    Option.all_eq_true, Bool.or_eq_true, Watch.bounded, and_assoc]

theorem State.bounded_updLink {n : LinkId} {f : Link → Link} (hf : (s.link n).bounded = true → (f (s.link n)).bounded = true)
    (h : s.bounded = true) : (s.updLink n f).bounded = true := by
  obtain ⟨hlinks, hrest⟩ := State.bounded_iff.mp h
  refine State.bounded_iff.mpr ⟨fun m => ?_, hrest⟩
  rw [State.link_updLink]
  split
  · rename_i hm; subst hm; exact hf (hlinks n)
  · exact hlinks m

theorem State.bounded_mapLinks {f : LinkId → Link → Link}
    (hf : ∀ n, (s.link n).bounded = true → (f n (s.link n)).bounded = true) (h : s.bounded = true) :
    (s.mapLinks f).bounded = true := by
  obtain ⟨hlinks, hrest⟩ := State.bounded_iff.mp h
  refine State.bounded_iff.mpr ⟨fun m => ?_, hrest⟩
  rw [State.link_mapLinks]
  exact hf m (hlinks m)

theorem State.bounded_setWatch {id : WatchId} {v : Option Watch} (hv : ∀ w, v = some w → w.bounded) (h : s.bounded = true) :
    (s.setWatch id v).bounded = true := by
  obtain ⟨hlinks, hfaults, hwatches⟩ := State.bounded_iff.mp h
  refine State.bounded_iff.mpr ⟨hlinks, hfaults, fun j w hj => ?_⟩
  rw [State.watch_setWatch] at hj
  split at hj
  · exact hv w hj
  · exact hwatches j w hj

theorem State.bounded_countFault (b : Bool) (h : s.bounded = true) :
    State.bounded { s with faults := countFault b s.faults } = true := by
  obtain ⟨hlinks, hfaults, hwatches⟩ := State.bounded_iff.mp h
  refine State.bounded_iff.mpr ⟨hlinks, ?_, hwatches⟩
  simp only [countFault]
  split
  · exact countUp_le _ _
  · exact hfaults

theorem State.bounded_foldl {β : Type} {f : State → β → State} (hf : ∀ {s : State} b, s.bounded = true → (f s b).bounded = true) :
    ∀ (bs : List β) {s : State}, s.bounded = true → (bs.foldl f s).bounded = true
  | [], _, h => h
  | b :: bs, _, h => State.bounded_foldl hf bs (hf b h)

theorem State.bounded_setSlot (i : SlotId) (v : Option Slot) (h : s.bounded = true) : (s.setSlot i v).bounded = true :=
  State.bounded_updLink (f := fun l => l.setSlot i.idx v) id h

theorem State.bounded_placeReply (n : LinkId) (r : Reply) (h : s.bounded = true) : (s.placeReply n r).bounded = true :=
  State.bounded_updLink (f := fun l => l.placeReply r) id h

theorem State.bounded_queueNotice (n : LinkId) (m : Notice) (h : s.bounded = true) : (s.queueNotice n m).bounded = true :=
  State.bounded_updLink (Link.bounded_queueNotice m) h

theorem State.bounded_setSegment (id : SegmentId) (g : Option Segment) (h : s.bounded = true) :
    (s.setSegment id g).bounded = true := h

theorem State.bounded_handleOutcome (i : SlotId) (o : Outcome) (h : s.bounded = true) : (s.handleOutcome i o).bounded = true := by
  rcases s.handleOutcome_cases i o with ⟨_, he⟩ | ⟨sl, _, ⟨_, he⟩ | ⟨_, he⟩ | ⟨_, he⟩⟩ <;> rw [he]
  · exact h
  · exact State.bounded_updLink id h
  · exact State.bounded_updLink (Link.bounded_holdOutcome _ _ _) h
  · exact State.bounded_setSlot _ _ h

theorem State.bounded_reportTo (r : WriteReport) (id : WatchId) (h : s.bounded = true) :
    (State.reportTo r s id).bounded = true := by
  unfold State.reportTo
  split
  · exact h
  · rename_i w hw
    obtain ⟨hmissed, harmed⟩ := (State.bounded_iff.mp h).2.2 id w hw
    split
    · exact h
    · split
      · rename_i hfired
        exact State.bounded_setWatch (fun _ e => Option.some.inj e ▸ ⟨countUp_le _ _, .inl hfired⟩) h
      · exact State.bounded_queueNotice _ _
          (State.bounded_setWatch (fun _ e => Option.some.inj e ▸ ⟨hmissed, .inl rfl⟩) h)

theorem State.bounded_handReport (r : Option WriteReport) (h : s.bounded = true) : (s.handReport r).bounded = true := by
  cases r with
  | none => exact h
  | some r =>
    unfold State.handReport
    exact State.bounded_foldl (fun id h => State.bounded_reportTo r id h) watchIds h

theorem State.bounded_dropWatchesOn (seg : SegmentId) (h : s.bounded = true) : (s.dropWatchesOn seg).bounded = true := by
  unfold State.dropWatchesOn
  refine State.bounded_foldl (fun {s} id h => ?_) watchIds h
  unfold State.dropWatchOn
  split
  · exact h
  · split
    · exact State.bounded_queueNotice _ _ (State.bounded_setWatch (fun _ e => nomatch e) h)
    · exact h

theorem State.bounded_resetLinks (targets : LinkId → Bool) (cause : ResetCause) (h : s.bounded = true) :
    (s.resetLinks targets cause).bounded = true := by
  obtain ⟨hlinks, hfaults, hwatches⟩ := State.bounded_iff.mp h
  refine State.bounded_iff.mpr ⟨fun m => ?_, hfaults, fun id w hw => ?_⟩
  · rw [State.link_resetLinks]
    split
    · exact Link.bounded_reset _ _ (hlinks m)
    · exact hlinks m
  · refine hwatches id w ?_
    simp only [State.resetLinks, State.dropWatchesOf, State.watch, Fin.getElem_fin, Vector.getElem_ofFn,
      Option.filter_eq_some_iff] at hw
    exact hw.1

theorem State.bounded_completeLinkreset (t n : LinkId) (tag : Tag) (h : s.bounded = true) :
    (s.completeLinkreset t n tag).bounded = true := by
  have hopen : (s.updLink t Link.reopen).bounded = true := State.bounded_updLink Link.bounded_reopen h
  refine State.bounded_queueNotice _ _ ?_
  unfold State.answerLinkreset
  split
  · exact State.bounded_placeReply _ _ hopen
  · split
    · exact State.bounded_updLink id hopen
    · exact hopen

theorem State.bounded_finishLinkreset (t : LinkId) (h : s.bounded = true) : (s.finishLinkreset t).bounded = true := by
  rcases s.finishLinkreset_cases t with he | ⟨n, tag, _, _, he⟩
  · rwa [he]
  · rw [he]; exact State.bounded_completeLinkreset t n tag h

theorem State.bounded_completeRestart (n : LinkId) (h : s.bounded = true) : (s.completeRestart n).bounded = true := by
  have hopen : (s.mapLinks fun _ l => l.reopen.queueNotice (.restarted .restart n)).bounded = true :=
    State.bounded_mapLinks (fun _ hl => Link.bounded_queueNotice _ (Link.bounded_reopen hl)) h
  exact hopen

theorem State.bounded_completeResets (h : s.bounded = true) : s.completeResets.bounded = true := by
  unfold State.completeResets
  split
  · split
    · exact h
    · exact State.bounded_completeRestart _ h
  · exact State.bounded_foldl (fun t h => State.bounded_finishLinkreset t h) linkIds h

theorem State.bounded_dispatch (h : s.bounded = true) : s.dispatch.bounded = true := by
  rcases s.dispatch_cases with he | ⟨i, sl, _, _, _, _, he⟩ <;> rw [he]
  · exact h
  · exact State.bounded_setSlot (s := s) i _ h

theorem State.bounded_portChoose (h : s.bounded = true) : s.portChoose.bounded = true := by
  rcases s.portChoose_cases with he | ⟨r, _, _, he⟩ | ⟨i, sl, _, _, _, _, he⟩ <;> rw [he] <;> exact h

/-! ### Frames taken -/

theorem State.bounded_takeData (n : LinkId) (tag : Tag) (r : DataRequest) (h : s.bounded = true) :
    (s.takeData n tag r).bounded = true := by
  rcases s.takeData_cases n tag r with ⟨e, he⟩ | ⟨k, job, _, _, _, _, he⟩
  · rw [he]; exact State.bounded_placeReply _ _ h
  · rw [he, State.admission]
    have hset := State.bounded_setSlot (s := s) ⟨n, k⟩ (some (newSlot (s.link n) s.admissions tag r job)) h
    dsimp only
    split
    · exact State.bounded_updLink (f := fun l => l.deferSlot k (newSlot (s.link n) s.admissions tag r job)) id hset
    · exact hset

theorem State.bounded_cancelTarget (i : SlotId) (sl : Slot) (h : s.bounded = true) : (s.cancelTarget i sl).bounded = true := by
  unfold State.cancelTarget
  split
  · exact State.bounded_handleOutcome _ _ h
  · exact State.bounded_handleOutcome _ _ h
  · exact State.bounded_handleOutcome _ _ h
  · exact State.bounded_setSlot _ _ h
  · exact State.bounded_setSlot _ _ h
  · exact h

theorem State.bounded_takeRequest (n : LinkId) (tag : Tag) (r : Request) (h : s.bounded = true) :
    (s.takeRequest n tag r).bounded = true := by
  have place : ∀ {t : State} (x : Reply), t.bounded = true → (t.placeReply n x).bounded = true :=
    fun x => State.bounded_placeReply n x
  cases r with
  | data r => exact State.bounded_takeData n tag r h
  | claim =>
    simp only [State.takeRequest, State.takeClaim]
    split
    · exact place _ h
    · split
      · exact State.bounded_updLink id h
      · exact place _ h
  | cancel =>
    simp only [State.takeRequest, State.takeCancel]
    split
    · exact place _ h
    · exact place _ (State.bounded_cancelTarget _ _ h)
  | watch seg off c m w =>
    simp only [State.takeRequest, State.takeWatch]
    split
    · exact place _ h
    · split
      · exact place _ h
      · exact place _ (State.bounded_setWatch (fun _ e => Option.some.inj e ▸ ⟨Nat.zero_le _, .inr rfl⟩) h)
  | rearm id =>
    simp only [State.takeRequest, State.takeRearm]
    split
    · exact place _ h
    · split
      · exact place _ (State.bounded_setWatch (fun _ e => Option.some.inj e ▸ ⟨Nat.zero_le _, .inr rfl⟩) h)
      · exact place _ h
  | unwatch id =>
    simp only [State.takeRequest, State.takeUnwatch]
    split
    · exact place _ h
    · exact place _ (State.bounded_setWatch (fun _ e => nomatch e) h)
  | define id b len r =>
    simp only [State.takeRequest, State.takeDefine]
    split
    · exact place _ h
    · split
      · exact place _ h
      · split
        · exact place _ h
        · split
          · exact place _ (State.bounded_setSegment _ _ (State.bounded_dropWatchesOn id h))
          · exact place _ (State.bounded_setSegment _ _ h)
  | drop id =>
    simp only [State.takeRequest, State.takeDrop]
    split
    · exact place _ h
    · split
      · exact place _ h
      · split
        · exact place _ h
        · exact place _ (State.bounded_setSegment _ _ (State.bounded_dropWatchesOn id h))
  | linkset t p =>
    simp only [State.takeRequest, State.takeLinkset]
    split
    · exact place _ h
    · exact place _ (State.bounded_updLink (Link.bounded_setParameter p) h)
  | query q =>
    cases q with
    | link m =>
      simp only [State.takeRequest, State.takeQuery]
      split <;> exact place _ h
    | part => exact place _ h
    | slots => exact place _ h
    | segment id => exact place _ h
    | watches => exact place _ h
  | linkreset t =>
    simp only [State.takeRequest, State.takeLinkreset]
    split
    · exact place _ h
    · split
      · exact place _ h
      · refine State.bounded_resetLinks _ _ ?_
        unfold State.awaitReset
        split
        · exact h
        · exact State.bounded_updLink id h
  | restart =>
    simp only [State.takeRequest, State.takeRestart]
    split
    · exact place _ h
    · exact State.bounded_resetLinks _ _ h

theorem State.bounded_takeFrame (n : LinkId) (f : Frame) (h : s.bounded = true) : (s.takeFrame n f).bounded = true := by
  unfold State.takeFrame
  split
  · exact State.bounded_placeReply _ _ h
  · exact State.bounded_takeRequest _ _ _ h

/-! ### Completions -/

/-- The Store and the port after an access, its fault counted and its report handed. -/
theorem State.bounded_accessDone (st : Store) (fault : Bool) (r : Option WriteReport) (h : s.bounded = true) :
    (State.handReport { s with store := st, port := .idle, faults := countFault fault s.faults } r).bounded = true :=
  State.bounded_handReport r (s := { s with store := st, port := .idle, faults := countFault fault s.faults })
    (State.bounded_countFault fault h)

theorem State.bounded_settleStride (i : SlotId) (sl : Slot) (run : StrideRun) (h : s.bounded = true) :
    (s.settleStride i sl run).bounded = true := by
  unfold State.settleStride
  split
  · exact State.bounded_handleOutcome _ _ h
  · split
    · exact State.bounded_handleOutcome _ _ h
    · split
      · exact State.bounded_handleOutcome _ _ h
      · split
        · exact State.bounded_setSlot _ _ h
        · exact h

theorem State.bounded_cleared (s : State) : s.cleared.bounded = true := by
  refine State.bounded_iff.mpr ⟨fun n => ?_, Nat.zero_le _, fun id w hw => ?_⟩
  · simp only [State.cleared, State.link, Fin.getElem_fin, Vector.getElem_ofFn]
    exact Link.bounded_atReset _ _
  · simp [State.cleared, State.watch] at hw

theorem State.bounded_completeDirect (a : DirectAccess) (h : s.bounded = true) : (s.completeDirect a).bounded = true := by
  simp only [State.completeDirect]
  split
  · exact State.bounded_handleOutcome _ _ (State.bounded_accessDone _ _ _ h)
  · exact State.bounded_accessDone _ _ _ h

theorem State.bounded_completeStride (r : Stride) (sl : Slot) (h : s.bounded = true) :
    (s.completeStride r sl).bounded = true := by
  simp only [State.completeStride]
  exact State.bounded_settleStride _ _ _ (State.bounded_setSlot _ _ (State.bounded_accessDone _ _ _ h))

theorem State.bounded_completeStopping (r : Stride) (sl : Slot) (h : s.bounded = true) :
    (s.completeStopping r sl).bounded = true := by
  simp only [State.completeStopping]
  exact State.bounded_setSlot _ _ (State.bounded_accessDone _ _ _ h)

theorem State.bounded_openService (h : s.bounded = true) : s.openService.bounded = true := by
  have hopen : (s.mapLinks fun _ l => l.openService (if s.opened then .pin else .power)).bounded = true :=
    State.bounded_mapLinks (fun _ hl => Link.bounded_queueNotice _ hl) h
  exact hopen

/-- The bounds are kept by every change. -/
theorem State.kept_bounded : State.Kept fun s => s.bounded = true where
  withPending _ h := h
  freeCount h := h
  completeResets h := State.bounded_completeResets h
  dispatch h := State.bounded_dispatch h
  portChoose h := State.bounded_portChoose h
  leaveInbox hbox h := State.bounded_updLink (Link.bounded_leaveInbox hbox) h
  takeFrame f _ h := State.bounded_takeFrame _ f h
  arbitrate h := State.bounded_mapLinks (fun _ => Link.bounded_arbitrate) h
  ticks k h := State.bounded_mapLinks (f := fun _ l => l.ticks k) (fun _ => id) h
  budgetExpires {_ i sl} _ _ h := State.bounded_updLink (f := fun l => l.deferSlot i.idx sl) id h
  holdExpires _ _ h := State.bounded_updLink (Link.bounded_dropHeld _ _) h
  beginFrame _ h := State.bounded_updLink Link.bounded_beginFrame h
  endFrame _ checked h := State.bounded_updLink (Link.bounded_endFrame checked) h
  seeLow _ h := State.bounded_updLink Link.bounded_seeLow h
  hostHold _ b h := State.bounded_updLink (f := fun l => { l with hostHold := b }) id h
  endTransmission _ h := State.bounded_updLink Link.bounded_endTransmission h
  completeDirect _ _ h := State.bounded_completeDirect _ h
  completeStride _ _ _ _ h := State.bounded_completeStride _ _ h
  completeStopping _ _ _ _ h := State.bounded_completeStopping _ _ h
  upset _ _ h := h
  powerOn _ := State.bounded_cleared _
  clearStore _ h := h
  rstn _ h := h
  openService h := State.bounded_openService h
  rstnFall _ _ _ _ := State.bounded_cleared _

end Sys2Proof.Machine

namespace Sys2Proof.Proofs

open Sys2Proof.Machine

/-- Settles O56: the induction over steps, for the bounds. -/
theorem boundsAreKept : Obligations.BoundsAreKept := fun _ _ hbounds hstep => State.kept_bounded.step hbounds hstep

end Sys2Proof.Proofs
end

section
/-! PROOFS. What each operation of an event does to the slots. -/

namespace Sys2Proof.Machine

variable {s : State}

/-! ### Operations that change no slot -/

theorem State.slot_of_links {t : State} (h : t.links = s.links) (i : SlotId) : t.slot i = s.slot i := by
  simp only [State.slot, State.link, h]

theorem State.slot_foldl {β : Type} {f : State → β → State} (hf : ∀ s b i, (f s b).slot i = s.slot i) :
    ∀ (bs : List β) (s : State) (i : SlotId), (bs.foldl f s).slot i = s.slot i
  | [], _, _ => rfl
  | b :: bs, s, i => (State.slot_foldl hf bs (f s b) i).trans (hf s b i)

@[simp] theorem State.slot_mapLinks_of_slots {f : LinkId → Link → Link} (h : ∀ n l k, (f n l).slot k = l.slot k) (i : SlotId) :
    (s.mapLinks f).slot i = s.slot i := by
  simp only [State.slot, State.link_mapLinks, h]

@[simp] theorem State.slot_reportTo (r : WriteReport) (id : WatchId) (i : SlotId) :
    (State.reportTo r s id).slot i = s.slot i := by
  unfold State.reportTo
  split
  · rfl
  · split
    · rfl
    · split <;> simp

@[simp] theorem State.slot_handReport (r : Option WriteReport) (i : SlotId) : (s.handReport r).slot i = s.slot i := by
  cases r with
  | none => rfl
  | some r =>
    unfold State.handReport
    exact State.slot_foldl (fun s id i => State.slot_reportTo r id i) watchIds s i

@[simp] theorem State.slot_dropWatchesOn (seg : SegmentId) (i : SlotId) : (s.dropWatchesOn seg).slot i = s.slot i := by
  unfold State.dropWatchesOn
  refine State.slot_foldl (fun s id i => ?_) watchIds s i
  unfold State.dropWatchOn
  split
  · rfl
  · split <;> simp

@[simp] theorem State.slot_setSegment (id : SegmentId) (g : Option Segment) (i : SlotId) :
    (s.setSegment id g).slot i = s.slot i := rfl

@[simp] theorem State.slot_answerOk (n : LinkId) (tag : Tag) (ws : List Word) (i : SlotId) :
    (s.answerOk n tag ws).slot i = s.slot i := s.slot_placeReply n _ i

@[simp] theorem State.slot_refuse (n : LinkId) (tag : Tag) (e : Status) (i : SlotId) :
    (s.refuse n tag e).slot i = s.slot i := s.slot_placeReply n _ i

@[simp] theorem State.slot_answerLinkreset (t n : LinkId) (tag : Tag) (i : SlotId) :
    (s.answerLinkreset t n tag).slot i = s.slot i := by
  unfold State.answerLinkreset
  split
  · simp
  · split
    · exact State.slot_updLink (f := fun l => { l.placeReply (.answer .ok tag []) with status := .opened }) _
        (fun _ _ => rfl) i
    · rfl

@[simp] theorem State.slot_completeLinkreset (t n : LinkId) (tag : Tag) (i : SlotId) :
    (s.completeLinkreset t n tag).slot i = s.slot i := by
  unfold State.completeLinkreset
  rw [State.slot_queueNotice, State.slot_answerLinkreset]
  exact State.slot_updLink (f := Link.reopen) _ (fun _ _ => rfl) i

@[simp] theorem State.slot_finishLinkreset (t : LinkId) (i : SlotId) : (s.finishLinkreset t).slot i = s.slot i := by
  rcases s.finishLinkreset_cases t with he | ⟨n, tag, _, _, he⟩ <;> rw [he]
  exact State.slot_completeLinkreset t n tag i

@[simp] theorem State.slot_completeRestart (n : LinkId) (i : SlotId) : (s.completeRestart n).slot i = s.slot i :=
  State.slot_mapLinks_of_slots (f := fun _ l => l.reopen.queueNotice (.restarted .restart n))
    (fun _ l k => l.reopen.queueNotice_slot _ k) i

@[simp] theorem State.slot_completeResets (i : SlotId) : s.completeResets.slot i = s.slot i := by
  unfold State.completeResets
  split
  · split
    · rfl
    · exact State.slot_completeRestart _ i
  · exact State.slot_foldl (fun s t i => State.slot_finishLinkreset t i) linkIds s i

@[simp] theorem State.slot_portChoose (i : SlotId) : s.portChoose.slot i = s.slot i := by
  rcases s.portChoose_cases with he | ⟨r, _, _, he⟩ | ⟨j, sl, _, _, _, _, he⟩ <;> rw [he]
  · rfl
  · rfl

@[simp] theorem State.slot_awaitReset (n t : LinkId) (i : SlotId) : (s.awaitReset n t).slot i = s.slot i := by
  unfold State.awaitReset
  split
  · rfl
  · exact State.slot_updLink (f := fun l => { l with status := .awaiting t }) _ (fun _ _ => rfl) i

@[simp] theorem State.slot_openService (i : SlotId) : s.openService.slot i = s.slot i :=
  State.slot_mapLinks_of_slots (f := fun _ l => l.openService (if s.opened then .pin else .power))
    (fun _ l k => Link.queueNotice_slot { l with status := .opened } _ k) i

/-! ### Operations on one link's lines -/

@[simp] theorem Link.slot_seeLow (l : Link) (k : SlotIdx) : l.seeLow.slot k = l.slot k := by
  unfold Link.seeLow
  split <;> rfl

@[simp] theorem Link.slot_beginFrame (l : Link) (k : SlotIdx) : l.beginFrame.slot k = l.slot k := by
  unfold Link.beginFrame
  split <;> rfl

@[simp] theorem Link.slot_discardFrame (l : Link) (why : BadFrame) (k : SlotIdx) : (l.discardFrame why).slot k = l.slot k :=
  Link.queueNotice_slot { l with badFrames := countUp counterMax l.badFrames } _ k

@[simp] theorem Link.slot_endFrame (l : Link) (checked : Except BadFrame Frame) (k : SlotIdx) :
    (l.endFrame checked).slot k = l.slot k := by
  unfold Link.endFrame
  split
  · split
    · rfl
    · exact Link.slot_discardFrame { l with receiver := .idle } _ k
  · exact Link.slot_discardFrame { l with receiver := .idle } _ k
  · exact l.slot_seeLow k
  · rfl

@[simp] theorem Link.slot_endTransmission (l : Link) (k : SlotIdx) : l.endTransmission.slot k = l.slot k := by
  unfold Link.endTransmission
  split
  · rfl
  · rfl
  · unfold Link.queueOverflow
    split
    · rfl
    · exact Link.queueNotice_slot { l with transmitter := .free, outLine := .gap, notices := l.notices.drop 1 } _ k

@[simp] theorem Link.slot_setParameter (l : Link) (p : Parameter) (k : SlotIdx) : (l.setParameter p).slot k = l.slot k := by
  cases p <;> rfl

/-! ### Operations on one slot -/

theorem State.slot_updLink_set {i : SlotId} {v : Option Slot} {f : Link → Link}
    (hf : ∀ l k, (f l).slot k = if i.idx = k then v else l.slot k) (j : SlotId) :
    (s.updLink i.link f).slot j = if i = j then v else s.slot j := by
  obtain ⟨a, b⟩ := i
  obtain ⟨c, d⟩ := j
  simp only [State.slot, State.link_updLink, SlotId.mk.injEq]
  by_cases hac : a = c
  · subst hac; simp only [if_true, true_and, hf]
  · simp only [hac, if_false, false_and]

theorem Link.slot_answerOutcome (l : Link) (k j : SlotIdx) (sl : Slot) (o : Outcome) :
    (l.answerOutcome k sl o).slot j = if k = j then none else l.slot j := l.slot_setSlot k j none

theorem Link.slot_holdOutcome (l : Link) (k j : SlotIdx) (sl : Slot) (o : Outcome) :
    (l.holdOutcome k sl o).slot j = if k = j then some (sl.heldWith l.hold o) else l.slot j := by
  simp only [Link.holdOutcome]
  split
  · rw [Link.queueNotice_slot, Link.slot_setSlot]
  · rw [Link.slot_setSlot]

theorem Link.slot_deferSlot (l : Link) (k j : SlotIdx) (sl : Slot) :
    (l.deferSlot k sl).slot j = if k = j then some sl.deferred else l.slot j := l.slot_setSlot k j _

theorem Link.slot_dropHeld (l : Link) (k j : SlotIdx) (sl : Slot) :
    (l.dropHeld k sl).slot j = if k = j then none else l.slot j := by
  show ((l.setSlot k none).queueNotice _).slot j = _
  rw [Link.queueNotice_slot, Link.slot_setSlot]

theorem State.slot_budgetExpires (i j : SlotId) (sl : Slot) :
    (s.budgetExpires i sl).slot j = if i = j then some sl.deferred else s.slot j :=
  State.slot_updLink_set (fun l k => l.slot_deferSlot i.idx k sl) j

theorem State.slot_holdExpires (i j : SlotId) (sl : Slot) :
    (s.holdExpires i sl).slot j = if i = j then none else s.slot j :=
  State.slot_updLink_set (fun l k => l.slot_dropHeld i.idx k sl) j

/-- A HELD result handed over: its slot is FREE. -/
theorem State.slot_returnHeld (n : LinkId) (k : SlotIdx) (r : Reply) (j : SlotId) :
    (s.updLink n fun l => (l.setSlot k none).placeReply r).slot j = if (⟨n, k⟩ : SlotId) = j then none else s.slot j :=
  State.slot_updLink_set (i := ⟨n, k⟩) (f := fun l => (l.setSlot k none).placeReply r) (fun l j => l.slot_setSlot k j none) j

/-- An outcome frees its slot, or makes it HELD; a FREE slot stays so. -/
theorem State.slot_handleOutcome (i j : SlotId) (o : Outcome) : (s.handleOutcome i o).slot j =
    if i = j then (s.slot i).bind fun sl =>
      if sl.phase = .deferred then some (sl.heldWith (s.link i.link).hold o) else none
    else s.slot j := by
  rcases s.handleOutcome_cases i o with ⟨hs, he⟩ | ⟨sl, hs, ⟨hp, he⟩ | ⟨hp, he⟩ | ⟨hp, he⟩⟩ <;> rw [he, hs]
  · split
    · rename_i hij; subst hij; rw [hs]; rfl
    · rfl
  · rw [State.slot_updLink_set fun l k => l.slot_answerOutcome i.idx k sl o]
    simp [hp]
  · obtain ⟨a, b⟩ := i
    obtain ⟨c, d⟩ := j
    simp only [State.slot, State.link_updLink, SlotId.mk.injEq, hp, Option.bind_some, if_true]
    by_cases hac : a = c
    · subst hac; simp only [if_true, true_and, Link.slot_holdOutcome]
    · simp only [hac, if_false, false_and]
  · rw [State.slot_setSlot]
    simp [hp]

/-- Dispatch changes no slot, but an eligible QUEUED or SUSPENDED one may become RUNNING. -/
theorem State.slot_startOperation (i j : SlotId) (sl : Slot) :
    (s.startOperation i sl).slot j = if i = j then some { sl with state := .running } else s.slot j :=
  s.slot_setSlot i j _

/-- A slot after an admission: the new record, deferred at once under a budget of 0. -/
theorem State.slot_admission (n : LinkId) (k : SlotIdx) (tag : Tag) (r : DataRequest) (job : Job Operand) (j : SlotId) :
    (s.admission n k tag r job).slot j =
      if (⟨n, k⟩ : SlotId) = j then
        some (if !r.posted && decide ((s.link n).budget = 0) then (newSlot (s.link n) s.admissions tag r job).deferred
          else newSlot (s.link n) s.admissions tag r job)
      else s.slot j := by
  have hset : ∀ j, State.slot { s.setSlot ⟨n, k⟩ (some (newSlot (s.link n) s.admissions tag r job)) with
      admissions := s.admissions + 1 } j =
      if (⟨n, k⟩ : SlotId) = j then some (newSlot (s.link n) s.admissions tag r job) else s.slot j :=
    fun j => s.slot_setSlot ⟨n, k⟩ j _
  unfold State.admission
  dsimp only
  by_cases hb : (!r.posted && decide ((s.link n).budget = 0)) = true
  · rw [if_pos hb, if_pos hb]
    rw [State.slot_updLink_set (i := ⟨n, k⟩) (fun l j => l.slot_deferSlot k j _), hset]
    split <;> rfl
  · rw [if_neg hb, if_neg hb, hset]

/-- A slot after the acceptance of a reset of some links (R30). -/
theorem State.slot_resetLinks (targets : LinkId → Bool) (cause : ResetCause) (i : SlotId) :
    (s.resetLinks targets cause).slot i =
      if targets i.link then resetSlot (s.strideInProgress i) (s.slot i) else s.slot i := by
  unfold State.slot
  rw [State.link_resetLinks]
  split
  · simp only [Link.reset, Link.slot, Fin.getElem_fin, Vector.getElem_ofFn]
  · rfl

theorem State.slot_cleared (i : SlotId) : s.cleared.slot i = none := by
  simp [State.cleared, State.slot, State.link, Link.atReset, Link.slot]

end Sys2Proof.Machine
end

section
/-! PROOFS. R54: the claims that different slots hold never conflict. Only dispatch makes a slot hold claims; every other
change leaves each slot holding what it held, or nothing. -/

namespace Sys2Proof.Machine

variable {s t : State}

/-! ### Claims held, slot by slot -/

/-- The claims that a slot of the part holds, none when it is FREE. -/
def heldClaims (v : Option Slot) : List Claim :=
  match v with
  | some sl => sl.claims
  | none => []

/-- A slot that becomes `w` from `v` holds what it held, or nothing. -/
def claimsKept (v w : Option Slot) : Prop := heldClaims w = [] ∨ heldClaims w = heldClaims v

theorem claimsKept_refl (v : Option Slot) : claimsKept v v := .inr rfl

theorem claimsKept_none (v : Option Slot) : claimsKept v none := .inl rfl

theorem Slot.claims_eq_nil {sl : Slot} (h : sl.state.holdsClaims = false) : sl.claims = [] := by
  simp [Slot.claims, h]

theorem claimsKept_of_holdsNone (v : Option Slot) {sl : Slot} (h : sl.state.holdsClaims = false) : claimsKept v (some sl) :=
  .inl (Slot.claims_eq_nil h)

/-- A change of a record that keeps state and operands, or stays within the states that hold claims, keeps the claims. -/
theorem claimsKept_of_same {sl sl' : Slot} (hjob : sl'.job = sl.job) (hstate : sl'.state.holdsClaims = sl.state.holdsClaims) :
    claimsKept (some sl) (some sl') := by
  refine .inr ?_
  simp only [heldClaims, Slot.claims, hjob, hstate]

/-- Every slot holds in `t` what it holds in `s`, or nothing. -/
def State.claimsWithin (s t : State) : Prop := ∀ i, claimsKept (s.slot i) (t.slot i)

theorem State.claimsWithin_refl (s : State) : s.claimsWithin s := fun i => claimsKept_refl (s.slot i)

theorem State.claimsWithin.trans {u : State} (hst : s.claimsWithin t) (htu : t.claimsWithin u) : s.claimsWithin u := by
  intro i
  rcases htu i with h | h
  · exact .inl h
  · rcases hst i with h' | h'
    · exact .inl (h.trans h')
    · exact .inr (h.trans h')

theorem State.claimsWithin_of_slot (h : ∀ i, t.slot i = s.slot i) : s.claimsWithin t :=
  fun i => .inr (congrArg heldClaims (h i))

theorem State.claimsWithin_set {i : SlotId} {v : Option Slot} (hv : claimsKept (s.slot i) v)
    (h : ∀ j, t.slot j = if i = j then v else s.slot j) : s.claimsWithin t := by
  intro j
  rw [h]
  split
  · rename_i hij; subst hij; exact hv
  · exact claimsKept_refl _

/-! ### Compatible claims -/

theorem Claim.conflicts_comm (c d : Claim) : c.conflicts d = d.conflicts c := by
  refine Bool.eq_iff_iff.mpr ?_
  rw [Claim.conflicts_iff, Claim.conflicts_iff]
  constructor <;> (rintro ⟨⟨x, h1, h2, h3, h4⟩, h⟩; exact ⟨⟨x, h3, h4, h1, h2⟩, h.symm⟩)

/-- R54, of the claims held by any two slots. -/
theorem State.claimsCompatible_iff : s.claimsCompatible = true ↔
    ∀ i j, j ≠ i → ∀ c ∈ heldClaims (s.slot i), ∀ d ∈ heldClaims (s.slot j), c.conflicts d = false := by
  simp only [State.claimsCompatible, List.all_eq_true, State.mem_busySlots, Prod.forall, State.clearOfClaims_iff]
  constructor
  · intro h i j hji c hc d hd
    cases hi : s.slot i with
    | none => rw [hi] at hc; cases hc
    | some sl =>
      cases hj : s.slot j with
      | none => rw [hj] at hd; cases hd
      | some sl' =>
        rw [hi] at hc; rw [hj] at hd
        exact h i sl hi j sl' hji hj d hd c hc
  · intro h i sl hi j sl' hji hj d hd c hc
    refine h i j hji c ?_ d ?_
    · rw [hi]; exact hc
    · rw [hj]; exact hd

theorem State.claimsWithin.compatible (hst : s.claimsWithin t) (h : s.claimsCompatible = true) :
    t.claimsCompatible = true := by
  rw [State.claimsCompatible_iff] at h ⊢
  intro i j hji c hc d hd
  rcases hst i with hi | hi
  · rw [hi] at hc; cases hc
  · rcases hst j with hj | hj
    · rw [hj] at hd; cases hd
    · exact h i j hji c (hi ▸ hc) d (hj ▸ hd)

/-! ### Dispatch -/

/-- An operation dispatched holds claims that conflict with no others: a SUSPENDED one held them already, and a QUEUED one is
eligible only when they are clear (R52, R57). -/
theorem State.claimsCompatible_startOperation {i : SlotId} {sl : Slot} (hslot : s.slot i = some sl)
    (helig : s.engineEligible i sl = true) (h : s.claimsCompatible = true) :
    (s.startOperation i sl).claimsCompatible = true := by
  by_cases hsusp : sl.state = .suspended
  · refine State.claimsWithin.compatible (State.claimsWithin_set ?_ fun j => State.slot_startOperation i j sl) h
    rw [hslot]
    exact claimsKept_of_same rfl (by rw [hsusp]; rfl)
  · have hclear : s.clearOfClaims i sl.job.claims = true := by
      simp only [State.engineEligible, hsusp, decide_false, Bool.false_or, Bool.and_eq_true] at helig
      exact helig.1.1
    rw [State.clearOfClaims_iff] at hclear
    have hother : ∀ j, j ≠ i → ∀ c ∈ sl.job.claims, ∀ d ∈ heldClaims (s.slot j), c.conflicts d = false := by
      intro j hji c hc d hd
      cases hj : s.slot j with
      | none => rw [hj] at hd; cases hd
      | some sl' => rw [hj] at hd; exact hclear j sl' hji hj d hd c hc
    rw [State.claimsCompatible_iff] at h ⊢
    intro a b hba c hc d hd
    rw [State.slot_startOperation] at hc hd
    split at hc <;> split at hd
    · exact absurd (‹i = b›.symm.trans ‹i = a›) hba
    · subst i; exact hother b hba c hc d hd
    · subst i; rw [Claim.conflicts_comm]; exact hother a hba.symm d hd c hc
    · exact h a b hba c hc d hd

/-! ### Every other change -/

theorem State.claimsWithin_setSlot {i : SlotId} {v : Option Slot} (hv : claimsKept (s.slot i) v) :
    s.claimsWithin (s.setSlot i v) := State.claimsWithin_set hv fun j => s.slot_setSlot i j v

theorem State.claimsWithin_updLink {n : LinkId} {f : Link → Link} (h : ∀ l k, (f l).slot k = l.slot k) :
    s.claimsWithin (s.updLink n f) := State.claimsWithin_of_slot fun i => s.slot_updLink h i

theorem State.claimsWithin_handleOutcome (i : SlotId) (o : Outcome) : s.claimsWithin (s.handleOutcome i o) := by
  refine State.claimsWithin_set ?_ fun j => s.slot_handleOutcome i j o
  cases s.slot i with
  | none => exact claimsKept_refl none
  | some sl =>
    rw [Option.bind_some]
    split
    · exact claimsKept_of_holdsNone _ rfl
    · exact claimsKept_none _

theorem Slot.holdsClaims_newSlot (l : Link) (a : Nat) (tag : Tag) (r : DataRequest) (job : Job Operand) :
    (newSlot l a tag r job).state.holdsClaims = false := by
  simp only [newSlot]
  split <;> rfl

theorem State.claimsWithin_takeData (n : LinkId) (tag : Tag) (r : DataRequest) : s.claimsWithin (s.takeData n tag r) := by
  rcases s.takeData_cases n tag r with ⟨e, he⟩ | ⟨k, job, _, _, _, _, he⟩ <;> rw [he]
  · exact State.claimsWithin_of_slot (State.slot_refuse n tag e)
  · refine State.claimsWithin_set (claimsKept_of_holdsNone _ ?_) (State.slot_admission n k tag r job)
    have hnew := Slot.holdsClaims_newSlot (s.link n) s.admissions tag r job
    split <;> exact hnew

theorem claimsKept_resetSlot (inProgress : Bool) (v : Option Slot) : claimsKept v (resetSlot inProgress v) := by
  cases v with
  | none => exact claimsKept_refl none
  | some sl =>
    simp only [resetSlot]
    split
    · split
      · exact claimsKept_of_same rfl (by rw [‹sl.state = _›]; rfl)
      · exact claimsKept_none _
    · exact claimsKept_refl _
    all_goals exact claimsKept_none _

theorem State.claimsWithin_resetLinks (targets : LinkId → Bool) (cause : ResetCause) :
    s.claimsWithin (s.resetLinks targets cause) := by
  intro i
  rw [State.slot_resetLinks]
  split
  · exact claimsKept_resetSlot _ _
  · exact claimsKept_refl _

theorem State.claimsWithin_cancelTarget {i : SlotId} {sl : Slot} (hslot : s.slot i = some sl) :
    s.claimsWithin (s.cancelTarget i sl) := by
  unfold State.cancelTarget
  split
  · exact State.claimsWithin_handleOutcome _ _
  · exact State.claimsWithin_handleOutcome _ _
  · exact State.claimsWithin_handleOutcome _ _
  · exact State.claimsWithin_setSlot (hslot ▸ claimsKept_of_same rfl rfl)
  · exact State.claimsWithin_setSlot (claimsKept_none _)
  · exact s.claimsWithin_refl

theorem State.claimsWithin_takeRequest (n : LinkId) (tag : Tag) (r : Request) : s.claimsWithin (s.takeRequest n tag r) := by
  have place : ∀ {t : State} (x : Reply), s.claimsWithin t → s.claimsWithin (t.placeReply n x) :=
    fun x h => h.trans (State.claimsWithin_of_slot fun i => State.slot_placeReply _ n x i)
  have same := s.claimsWithin_refl
  cases r with
  | data r => exact State.claimsWithin_takeData n tag r
  | claim =>
    simp only [State.takeRequest, State.takeClaim]
    split
    · exact place _ same
    · rename_i k _ _
      split
      · exact State.claimsWithin_set (claimsKept_none _) (State.slot_returnHeld n k _)
      · exact place _ same
  | cancel =>
    simp only [State.takeRequest, State.takeCancel]
    split
    · exact place _ same
    · exact place _ (State.claimsWithin_cancelTarget (State.slotWithTag_some ‹_›).1)
  | watch seg off c m w =>
    simp only [State.takeRequest, State.takeWatch]
    split
    · exact place _ same
    · split
      · exact place _ same
      · exact place _ (State.claimsWithin_of_slot fun _ => rfl)
  | rearm id =>
    simp only [State.takeRequest, State.takeRearm]
    split
    · exact place _ same
    · split
      · exact place _ (State.claimsWithin_of_slot fun _ => rfl)
      · exact place _ same
  | unwatch id =>
    simp only [State.takeRequest, State.takeUnwatch]
    split
    · exact place _ same
    · exact place _ (State.claimsWithin_of_slot fun _ => rfl)
  | define id b len r =>
    simp only [State.takeRequest, State.takeDefine]
    split
    · exact place _ same
    · split
      · exact place _ same
      · split
        · exact place _ same
        · split
          · exact place _ ((State.claimsWithin_of_slot (State.slot_dropWatchesOn id)).trans
              (State.claimsWithin_of_slot (State.slot_setSegment _ _)))
          · exact place _ (State.claimsWithin_of_slot (State.slot_setSegment _ _))
  | drop id =>
    simp only [State.takeRequest, State.takeDrop]
    split
    · exact place _ same
    · split
      · exact place _ same
      · split
        · exact place _ same
        · exact place _ ((State.claimsWithin_of_slot (State.slot_dropWatchesOn id)).trans
              (State.claimsWithin_of_slot (State.slot_setSegment _ _)))
  | linkset t p =>
    simp only [State.takeRequest, State.takeLinkset]
    split
    · exact place _ same
    · exact place _ (State.claimsWithin_updLink fun l k => l.slot_setParameter p k)
  | query q =>
    cases q with
    | link m =>
      simp only [State.takeRequest, State.takeQuery]
      split <;> exact place _ same
    | part => exact place _ same
    | slots => exact place _ same
    | segment id => exact place _ same
    | watches => exact place _ same
  | linkreset t =>
    simp only [State.takeRequest, State.takeLinkreset]
    split
    · exact place _ same
    · split
      · exact place _ same
      · exact (State.claimsWithin_of_slot fun i => State.slot_awaitReset n t i).trans (State.claimsWithin_resetLinks _ _)
  | restart =>
    simp only [State.takeRequest, State.takeRestart]
    split
    · exact place _ same
    · exact State.claimsWithin_resetLinks _ _

theorem State.claimsWithin_takeFrame (n : LinkId) (f : Frame) : s.claimsWithin (s.takeFrame n f) := by
  unfold State.takeFrame
  split
  · exact State.claimsWithin_of_slot fun i => State.slot_refuse n f.tag _ i
  · exact State.claimsWithin_takeRequest _ _ _

/-- The settlement of a stride, its slot's record being `sl` in a state that holds claims. -/
theorem State.claimsWithin_settleStride {i : SlotId} {sl : Slot} (run : StrideRun) (hslot : s.slot i = some sl)
    (hstate : sl.state = .running) : s.claimsWithin (s.settleStride i sl run) := by
  unfold State.settleStride
  split
  · exact State.claimsWithin_handleOutcome _ _
  · split
    · exact State.claimsWithin_handleOutcome _ _
    · split
      · exact State.claimsWithin_handleOutcome _ _
      · split
        · exact State.claimsWithin_setSlot (hslot ▸ claimsKept_of_same rfl (by rw [hstate]; rfl))
        · exact State.claimsWithin_of_slot fun _ => rfl

/-- An access done, its fault counted and its report handed: no slot has changed. -/
theorem State.slot_accessDone (st : Store) (faults : Nat) (r : Option WriteReport) (i : SlotId) :
    (State.handReport { s with store := st, port := .idle, faults := faults } r).slot i = s.slot i :=
  State.slot_handReport (s := { s with store := st, port := .idle, faults := faults }) r i

theorem State.claimsWithin_completeDirect (a : DirectAccess) : s.claimsWithin (s.completeDirect a) := by
  simp only [State.completeDirect]
  split
  · exact (State.claimsWithin_of_slot (State.slot_accessDone _ _ _)).trans (State.claimsWithin_handleOutcome _ _)
  · exact State.claimsWithin_of_slot (State.slot_accessDone _ _ _)

theorem State.claimsWithin_completeStride {r : Stride} {sl : Slot} (hslot : s.slot r.owner = some sl)
    (hstate : sl.state = .running) : s.claimsWithin (s.completeStride r sl) := by
  simp only [State.completeStride]
  refine ((State.claimsWithin_of_slot (State.slot_accessDone _ _ _)).trans (State.claimsWithin_setSlot ?_)).trans
    (State.claimsWithin_settleStride _ (State.slot_setSlot_self _ _ _) hstate)
  rw [State.slot_accessDone, hslot]
  exact claimsKept_of_same rfl rfl

theorem State.claimsWithin_completeStopping (r : Stride) (sl : Slot) : s.claimsWithin (s.completeStopping r sl) := by
  simp only [State.completeStopping]
  exact (State.claimsWithin_of_slot (State.slot_accessDone _ _ _)).trans (State.claimsWithin_setSlot (claimsKept_none _))

/-- A timer's ticks change no claim. -/
theorem State.claimsWithin_ticks (k : Nat) : s.claimsWithin (s.ticks k) := by
  intro i
  rw [State.ticks_slot]
  cases s.slot i with
  | none => exact claimsKept_refl none
  | some sl => exact claimsKept_of_same rfl rfl

theorem State.kept_claims : State.Kept fun s => s.claimsCompatible = true where
  withPending _ h := h
  freeCount h := h
  completeResets h := (State.claimsWithin_of_slot State.slot_completeResets).compatible h
  dispatch {s} h := by
    rcases s.dispatch_cases with he | ⟨i, sl, hslot, _, helig, _, he⟩ <;> rw [he]
    · exact h
    · exact State.claimsCompatible_startOperation hslot helig h
  portChoose h := (State.claimsWithin_of_slot State.slot_portChoose).compatible h
  leaveInbox {_ _ _ rest} _ h :=
    (State.claimsWithin_updLink (f := fun l => { l with inbox := rest }) fun _ _ => rfl).compatible h
  takeFrame f _ h := (State.claimsWithin_takeFrame _ f).compatible h
  arbitrate h := (State.claimsWithin_of_slot (State.slot_arbitrate _)).compatible h
  ticks k h := (State.claimsWithin_ticks k).compatible h
  budgetExpires {_ i sl} hslot _ h := by
    refine (State.claimsWithin_set ?_ fun j => State.slot_budgetExpires i j sl).compatible h
    exact hslot ▸ claimsKept_of_same rfl rfl
  holdExpires {_ i sl} _ _ h :=
    (State.claimsWithin_set (claimsKept_none _) fun j => State.slot_holdExpires i j sl).compatible h
  beginFrame _ h := (State.claimsWithin_updLink Link.slot_beginFrame).compatible h
  endFrame _ checked h := (State.claimsWithin_updLink fun l k => l.slot_endFrame checked k).compatible h
  seeLow _ h := (State.claimsWithin_updLink Link.slot_seeLow).compatible h
  hostHold _ b h := (State.claimsWithin_updLink (f := fun l => { l with hostHold := b }) fun _ _ => rfl).compatible h
  endTransmission _ h := (State.claimsWithin_updLink Link.slot_endTransmission).compatible h
  completeDirect _ _ h := (State.claimsWithin_completeDirect _).compatible h
  completeStride _ hslot hstate _ h := (State.claimsWithin_completeStride hslot hstate).compatible h
  completeStopping _ _ _ _ h := (State.claimsWithin_completeStopping _ _).compatible h
  upset _ _ h := h
  powerOn {s} h := State.claimsWithin.compatible (fun i => .inl (congrArg heldClaims (s.slot_cleared (i := i)))) h
  clearStore _ h := h
  rstn _ h := h
  openService h := (State.claimsWithin_of_slot State.slot_openService).compatible h
  rstnFall {s} _ _ _ h := State.claimsWithin.compatible (fun i => .inl (congrArg heldClaims (s.slot_cleared (i := i)))) h

end Sys2Proof.Machine

namespace Sys2Proof.Proofs

open Sys2Proof.Machine

/-- Settles O57: the induction over steps, for R54; dispatch is the one change that makes a slot hold claims. -/
theorem claimsNeverConflict : Obligations.ClaimsNeverConflict := fun _ _ hclaims hstep => State.kept_claims.step hclaims hstep

end Sys2Proof.Proofs
end

section
/-! PROOFS. The records of the part in agreement: `State.Records` says in one place, in propositions, what
`State.numbersDistinct` and `State.consistent` say, and how a change of one slot keeps it. -/

namespace Sys2Proof.Machine

variable {s t : State}

/-! ### A slot's record -/

theorem eq_decide_iff {b : Bool} {p : Prop} [Decidable p] : b = decide p ↔ (b = true ↔ p) := by
  cases b <;> simp

theorem Slot.consistent_iff {sl : Slot} : sl.consistent = true ↔
    (sl.outcome.isSome = true ↔ sl.state = .held) ∧ (sl.holdTimer.isSome = true → sl.state = .held) ∧
      (sl.state = .held → sl.phase = .deferred) ∧ (sl.reserved = true ↔ sl.phase = .unanswered ∧ sl.state ≠ .stopping) ∧
      (sl.budgetTimer.isSome = true → sl.reserved = true) ∧ (sl.state = .waiting → sl.job.isBlock = false) ∧
      (sl.state = .waiting ∨ sl.state = .held ∨ sl.job.isBlock = true) ∧
      (sl.phase = .silent → sl.state = .waiting ∧ sl.job.kind = .write) ∧
      (sl.cancelMark = true → sl.state = .running ∨ sl.state = .stopping ∨ sl.state = .held) := by
  have hres : (decide (sl.phase = .unanswered) && decide (sl.state ≠ .stopping)) =
      decide (sl.phase = .unanswered ∧ sl.state ≠ .stopping) := by simp
  unfold Slot.consistent
  rw [hres]
  simp only [eq_decide_iff, Bool.and_eq_true, decide_eq_true_eq, Bool.or_eq_true, Bool.not_eq_true', decide_eq_false_iff_not,
    imp_iff_not_or, Bool.not_eq_true, or_assoc, and_assoc]

theorem Slot.consistent_heldWith {sl : Slot} (hold : Half) (o : Outcome) (hp : sl.phase = .deferred)
    (h : sl.consistent = true) : (sl.heldWith hold o).consistent = true := by
  obtain ⟨_, _, _, hres, hbud, _, _, _, _⟩ := Slot.consistent_iff.mp h
  rw [Slot.consistent_iff]
  simp_all [Slot.heldWith]

theorem Slot.consistent_deferred {sl : Slot} (hp : sl.phase = .unanswered) (h : sl.consistent = true) :
    sl.deferred.consistent = true := by
  rw [Slot.consistent_iff] at h ⊢
  grind [Slot.deferred]

theorem Slot.consistent_running {sl : Slot} (hstate : sl.state = .queued ∨ sl.state = .suspended) (h : sl.consistent = true) :
    Slot.consistent { sl with state := .running } = true := by
  rw [Slot.consistent_iff] at h ⊢
  rcases hstate with hstate | hstate <;> simp_all

theorem Slot.consistent_suspended {sl : Slot} (hstate : sl.state = .running) (hmark : sl.cancelMark = false)
    (h : sl.consistent = true) : Slot.consistent { sl with state := .suspended } = true := by
  rw [Slot.consistent_iff] at h ⊢
  simp_all

theorem Slot.consistent_marked {sl : Slot} (hstate : sl.state = .running) (h : sl.consistent = true) :
    Slot.consistent { sl with cancelMark := true } = true := by
  rw [Slot.consistent_iff] at h ⊢
  simp_all

theorem Slot.consistent_toStopping {sl : Slot} (hstate : sl.state = .running) (h : sl.consistent = true) :
    sl.toStopping.consistent = true := by
  rw [Slot.consistent_iff] at h ⊢
  simp_all [Slot.toStopping]

theorem Slot.consistent_ticks {sl : Slot} (k : Nat) (h : sl.consistent = true) : (sl.ticks k).consistent = true := by
  rw [Slot.consistent_iff] at h ⊢
  simpa [Slot.ticks] using h

/-- A posted request is a WRITE. -/
def DataRequest.postFits (r : DataRequest) : Prop := r.posted = true → r.job.kind = .write

theorem Slot.consistent_newSlot {l : Link} {a : Nat} {tag : Tag} {r : DataRequest} {job : Job Operand}
    (hpost : r.posted = true → job.kind = .write) : (newSlot l a tag r job).consistent = true := by
  have hdirect : r.posted = true → job.isBlock = false := fun hp => by
    have := hpost hp
    cases job <;> simp_all [Job.kind, Job.isBlock]
  rw [Slot.consistent_iff]
  cases hb : job.isBlock <;> cases hp : r.posted <;> simp_all [newSlot]

/-! ### Slots and strides -/

/-- Slot i is RUNNING. -/
def State.runs (s : State) (i : SlotId) : Bool := (s.slot i).any fun sl => decide (sl.state = .running)

/-- Slot i is STOPPING. -/
def State.stops (s : State) (i : SlotId) : Bool := (s.slot i).any fun sl => decide (sl.state = .stopping)

/-- The strides outstanding for a slot, asked for or in progress, fit it: one for a RUNNING slot, one in progress for a
STOPPING slot, none for another (R82, R90). -/
def outstandingFits (runs stops asked inProgress : Bool) : Bool :=
  if runs then asked != inProgress else if stops then inProgress && !asked else !inProgress && !asked

/-- The engine works for one slot at most, and the strides outstanding fit every slot. -/
structure State.Engine (s : State) : Prop where
  one : ∀ i j, (s.runs i || s.stops i) = true → (s.runs j || s.stops j) = true → i = j
  fits : ∀ i, outstandingFits (s.runs i) (s.stops i) (s.strideAsked i) (s.strideInProgress i) = true

/-- A direct access in progress that a slot waits for is that slot's own, and the slot is WAITING (R66). -/
def State.AccessFits (s : State) : Prop :=
  ∀ a, s.port = .direct a → a.live = true → ∃ sl, s.slot a.owner = some sl ∧ sl.state = .waiting ∧ sl.job = a.job

/-- The places of a Reply List that replies occupy or slots own. -/
def Link.placesTaken (l : Link) : Nat := l.replies.length + l.reservedPlaces

/-- A Reply List's bounds by its link's state (R145, R147, R158). -/
structure Link.ListFits (l : Link) : Prop where
  all : l.placesTaken ≤ 12
  awaiting : ∀ t, l.status = .awaiting t → l.placesTaken ≤ 11
  resetting : l.isResetting = true → l.replies.length ≤ 1

/-- OFRn is high only in a transmission, and is not at rest in one (log 28). -/
structure Link.LineFits (l : Link) : Prop where
  low : l.outLine = .low → l.transmitter = .free
  high : l.outLine = .high → l.transmitter ≠ .free

/-- Slots, engine, port, resets in progress, Reply Lists, lines and numbers agree. -/
structure State.Records (s : State) : Prop where
  slots : ∀ i sl, s.slot i = some sl → sl.consistent = true
  engine : s.Engine
  access : s.AccessFits
  resetting : ∀ i sl, (s.link i.link).isResetting = true → s.slot i = some sl → sl.state = .stopping
  restart : ∀ n m r, (s.link n).status = .resetting (.restart r) → (s.link m).status = .resetting (.restart r)
  lists : ∀ n, (s.link n).ListFits
  lines : ∀ n, (s.link n).LineFits
  numbered : ∀ i sl, s.slot i = some sl → sl.admission < s.admissions
  distinct : ∀ i j sl sl', s.slot i = some sl → s.slot j = some sl' → i ≠ j →
    sl.admission ≠ sl'.admission ∧ (i.link = j.link → sl.tag ≠ sl'.tag)

/-! ### The executable predicates say the same -/

theorem nodup_allSlots : allSlots.Nodup := by decide +kernel

theorem State.pairwise_busySlots {R : SlotId × Slot → SlotId × Slot → Prop} (hR : ∀ p q, R p q → R q p) :
    s.busySlots.Pairwise R ↔ ∀ i j sl sl', s.slot i = some sl → s.slot j = some sl' → i ≠ j → R (i, sl) (j, sl') := by
  have hkeys : s.busySlots.Pairwise fun p q => p.1 ≠ q.1 := by
    rw [State.busySlots, List.pairwise_filterMap]
    refine nodup_allSlots.imp ?_
    rintro i j hij p hp q hq
    simp only [Option.map_eq_some_iff] at hp hq
    obtain ⟨_, _, rfl⟩ := hp
    obtain ⟨_, _, rfl⟩ := hq
    exact hij
  constructor
  · intro h i j sl sl' hi hj hij
    have hsymm : Std.Symm R := ⟨hR⟩
    exact h.forall (s.mem_busySlots.mpr hi) (s.mem_busySlots.mpr hj) fun e => hij (congrArg Prod.fst e)
  · intro h
    refine List.Pairwise.imp_of_mem ?_ hkeys
    rintro ⟨i, sl⟩ ⟨j, sl'⟩ hi hj hij
    exact h i j sl sl' (s.mem_busySlots.mp hi) (s.mem_busySlots.mp hj) hij

theorem List.Nodup.length_le_one_iff {α : Type} {l : List α} (hl : l.Nodup) :
    l.length ≤ 1 ↔ ∀ a ∈ l, ∀ b ∈ l, a = b := by
  match l, hl with
  | [], _ => simp
  | [a], _ => simp
  | a :: b :: l, hl =>
    simp only [List.nodup_cons, List.mem_cons, not_or] at hl
    refine ⟨fun h => by simp at h, fun h => absurd (h a (by simp) b (by simp)) hl.1.1⟩

theorem State.nodup_busySlots (s : State) : s.busySlots.Nodup := by
  refine List.Nodup.filterMap ?_ nodup_allSlots
  intro i j p hi hj
  simp only [Option.mem_def, Option.map_eq_some_iff] at hi hj
  obtain ⟨_, _, rfl⟩ := hi
  obtain ⟨_, _, hp⟩ := hj
  exact (congrArg Prod.fst hp).symm

theorem State.runs_iff {i : SlotId} : s.runs i = true ↔ ∃ sl, s.slot i = some sl ∧ sl.state = .running := by
  simp [State.runs, Option.any_eq_true]

theorem State.stops_iff {i : SlotId} : s.stops i = true ↔ ∃ sl, s.slot i = some sl ∧ sl.state = .stopping := by
  simp [State.stops, Option.any_eq_true]

theorem State.inEngine_iff {i : SlotId} : (s.runs i || s.stops i) = true ↔
    ∃ sl, s.slot i = some sl ∧ sl.state.inEngine = true := by
  cases h : s.slot i with
  | none => simp [State.runs, State.stops, h]
  | some sl => cases hs : sl.state <;> simp [State.runs, State.stops, h, hs, SlotState.inEngine]

theorem State.one_iff : (s.busySlots.filter fun p => p.2.state.inEngine).length ≤ 1 ↔
    ∀ i j, (s.runs i || s.stops i) = true → (s.runs j || s.stops j) = true → i = j := by
  rw [List.Nodup.length_le_one_iff (s.nodup_busySlots.filter _)]
  simp only [List.mem_filter, State.mem_busySlots, State.inEngine_iff]
  constructor
  · rintro h i j ⟨sl, hi, hsl⟩ ⟨sl', hj, hsl'⟩
    exact congrArg Prod.fst (h (i, sl) ⟨hi, hsl⟩ (j, sl') ⟨hj, hsl'⟩)
  · rintro h ⟨i, sl⟩ ⟨hi, hsl⟩ ⟨j, sl'⟩ ⟨hj, hsl'⟩
    obtain rfl := h i j ⟨sl, hi, hsl⟩ ⟨sl', hj, hsl'⟩
    exact Prod.ext rfl (Option.some.inj (hi.symm.trans hj))

theorem State.strideAsked_iff {i : SlotId} : s.strideAsked i = true ↔ ∃ r, s.stride = some r ∧ r.owner = i := by
  simp [State.strideAsked, Option.any_eq_true]

theorem State.strideInProgress_iff {i : SlotId} : s.strideInProgress i = true ↔ ∃ r, s.port = .stride r ∧ r.owner = i := by
  unfold State.strideInProgress
  split
  · rename_i r hp
    simp [hp]
  · rename_i hp
    simp only [Bool.false_eq_true, false_iff, not_exists, not_and]
    exact fun r hr => absurd hr (hp r)

/-- What fits a slot's record, by the slot. -/
theorem State.fits_iff {i : SlotId} :
    outstandingFits (s.runs i) (s.stops i) (s.strideAsked i) (s.strideInProgress i) = true ↔
      match s.slot i with
      | none => s.strideAsked i = false ∧ s.strideInProgress i = false
      | some sl => (match sl.state with
        | .running => s.strideAsked i != s.strideInProgress i
        | .stopping => s.strideInProgress i && !s.strideAsked i
        | _ => !s.strideInProgress i && !s.strideAsked i) = true := by
  cases h : s.slot i with
  | none => simp [outstandingFits, State.runs, State.stops, h, and_comm]
  | some sl => cases hs : sl.state <;> simp [outstandingFits, State.runs, State.stops, h, hs]

theorem State.engineConsistent_iff : s.engineConsistent = true ↔ s.Engine ∧ s.AccessFits := by
  simp only [State.engineConsistent, Bool.and_eq_true, decide_eq_true_eq, State.one_iff, List.all_eq_true,
    State.mem_busySlots, Prod.forall, and_assoc]
  constructor
  · rintro ⟨hone, hbusy, hasked, hport⟩
    refine ⟨⟨hone, fun i => State.fits_iff.mpr ?_⟩, fun a ha hlive => ?_⟩
    · split
      · rename_i hi
        constructor
        · rw [← Bool.not_eq_true, State.strideAsked_iff]
          rintro ⟨r, hr, rfl⟩
          simp [hr, hi] at hasked
        · rw [← Bool.not_eq_true, State.strideInProgress_iff]
          rintro ⟨r, hr, rfl⟩
          simp [hr, hi] at hport
      · have := hbusy i _ ‹_›
        split at this <;> simp_all
    · simpa [ha, hlive, Option.any_eq_true] using hport
  · rintro ⟨⟨hone, hfits⟩, haccess⟩
    have hnone : ∀ i, s.slot i = none → s.strideAsked i = false ∧ s.strideInProgress i = false := fun i hi => by
      simpa only [hi] using State.fits_iff.mp (hfits i)
    refine ⟨hone, fun i sl hi => ?_, ?_, ?_⟩
    · have := State.fits_iff.mp (hfits i)
      rw [hi] at this
      cases hs : sl.state <;> simpa only [hs] using this
    · rw [Option.all_eq_true]
      intro r hr
      by_contra hi
      have := (hnone r.owner (by simpa using hi)).1
      rw [← Bool.not_eq_true, State.strideAsked_iff] at this
      exact this ⟨r, hr, rfl⟩
    · split
      · rename_i r hr
        by_contra hi
        have := (hnone r.owner (by simpa using hi)).2
        rw [← Bool.not_eq_true, State.strideInProgress_iff] at this
        exact this ⟨r, hr, rfl⟩
      · rename_i a ha
        simpa [Option.any_eq_true, imp_iff_not_or] using haccess a ha
      · rfl

theorem Link.restartBy_eq {l : Link} {r : LinkId} : l.restartBy = some r ↔ l.status = .resetting (.restart r) := by
  unfold Link.restartBy
  split
  · simp_all
  · rename_i h
    simp only [reduceCtorEq, false_iff]
    exact fun e => h r e

theorem State.restartInProgress_some {r : LinkId} (h : s.restartInProgress = some r) :
    ∃ n, (s.link n).status = .resetting (.restart r) := by
  obtain ⟨n, _, hn⟩ := List.exists_of_findSome?_eq_some h
  refine ⟨n, ?_⟩
  split at hn
  · rw [‹(s.link n).status = _›, Option.some.inj hn]
  · cases hn

theorem State.restartInProgress_none : s.restartInProgress = none ↔ ∀ n r, (s.link n).status ≠ .resetting (.restart r) := by
  simp only [State.restartInProgress, List.findSome?_eq_none_iff, mem_linkIds, true_imp_iff]
  refine forall_congr' fun n => ?_
  split
  · simp_all
  · rename_i h
    simpa using fun r e => h r e

theorem State.resetsConsistent_iff : s.resetsConsistent = true ↔
    (∀ i sl, (s.link i.link).isResetting = true → s.slot i = some sl → sl.state = .stopping) ∧
      ∀ n m r, (s.link n).status = .resetting (.restart r) → (s.link m).status = .resetting (.restart r) := by
  simp only [State.resetsConsistent, Bool.and_eq_true, List.all_eq_true, mem_linkIds, true_imp_iff, State.mem_busyOn,
    Prod.forall, Bool.or_eq_true, Bool.not_eq_true', decide_eq_true_eq, ← Bool.not_eq_true]
  refine and_congr ?_ ?_
  · constructor
    · rintro h ⟨n, k⟩ sl hr hs
      exact (h n).resolve_left (fun hn => hn hr) k sl hs
    · intro h n
      exact Classical.or_iff_not_imp_left.mpr fun hr k sl hs => h ⟨n, k⟩ sl (Classical.not_not.mp hr) hs
  · constructor
    · intro h n m r hn
      split at h
      · rename_i r' hr
        simp only [List.all_eq_true, mem_linkIds, true_imp_iff, decide_eq_true_eq, Link.restartBy_eq] at h
        obtain rfl : r' = r := by have := (h n).symm.trans hn; simpa using this
        exact h m
      · rename_i hr
        exact absurd hn (State.restartInProgress_none.mp hr n r)
    · intro h
      split
      · rename_i r hr
        obtain ⟨n, hn⟩ := State.restartInProgress_some hr
        simp only [List.all_eq_true, mem_linkIds, true_imp_iff, decide_eq_true_eq, Link.restartBy_eq]
        exact fun m => h n m r hn
      · rfl

theorem Link.isResetting_iff {l : Link} : l.isResetting = true ↔ ∃ c, l.status = .resetting c := by
  unfold Link.isResetting
  split
  · simp_all
  · rename_i h
    simpa using fun c e => h c e

theorem State.listsConsistent_iff : s.listsConsistent = true ↔ ∀ n, (s.link n).ListFits := by
  simp only [State.listsConsistent, List.all_eq_true, mem_linkIds, true_imp_iff, Bool.and_eq_true, decide_eq_true_eq]
  refine forall_congr' fun n => ?_
  constructor
  · rintro ⟨hall, hstatus⟩
    refine ⟨hall, fun t ht => ?_, fun hr => ?_⟩
    · simpa [ht, Link.placesTaken] using hstatus
    · obtain ⟨c, hc⟩ := Link.isResetting_iff.mp hr
      simpa [hc] using hstatus
  · rintro ⟨hall, hawait, hreset⟩
    refine ⟨hall, ?_⟩
    split
    · exact decide_eq_true (hawait _ ‹_›)
    · exact decide_eq_true (hreset (Link.isResetting_iff.mpr ⟨_, ‹_›⟩))
    · rfl

theorem State.linesConsistent_iff : s.linesConsistent = true ↔ ∀ n, (s.link n).LineFits := by
  simp only [State.linesConsistent, List.all_eq_true, mem_linkIds, true_imp_iff]
  refine forall_congr' fun n => ?_
  cases h : (s.link n).outLine
  · exact ⟨fun hd => ⟨fun _ => of_decide_eq_true hd, fun e => by simp [h] at e⟩, fun hf => decide_eq_true (hf.low h)⟩
  · exact ⟨fun _ => ⟨fun e => by simp [h] at e, fun e => by simp [h] at e⟩, fun _ => rfl⟩
  · exact ⟨fun hd => ⟨fun e => by simp [h] at e, fun _ => of_decide_eq_true hd⟩, fun hf => decide_eq_true (hf.high h)⟩

theorem State.numbersDistinct_iff : s.numbersDistinct = true ↔
    (∀ i sl, s.slot i = some sl → sl.admission < s.admissions) ∧
      ∀ i j sl sl', s.slot i = some sl → s.slot j = some sl' → i ≠ j →
        sl.admission ≠ sl'.admission ∧ (i.link = j.link → sl.tag ≠ sl'.tag) := by
  simp only [State.numbersDistinct, Bool.and_eq_true, List.all_eq_true, State.mem_busySlots, Prod.forall,
    decide_eq_true_eq]
  refine and_congr Iff.rfl (State.pairwise_busySlots ?_)
  rintro p q ⟨hadm, htag⟩
  exact ⟨hadm.symm, fun e => (htag e.symm).symm⟩

/-- `State.Records` is what the executable predicates check. -/
theorem State.records_iff : s.numbersDistinct = true ∧ s.consistent = true ↔ s.Records := by
  have hslots : s.slotsConsistent = true ↔ ∀ i sl, s.slot i = some sl → sl.consistent = true := by
    simp only [State.slotsConsistent, List.all_eq_true, State.mem_busySlots, Prod.forall]
  simp only [State.consistent, Bool.and_eq_true, hslots, State.numbersDistinct_iff, State.engineConsistent_iff,
    State.resetsConsistent_iff, State.listsConsistent_iff, State.linesConsistent_iff]
  constructor
  · rintro ⟨⟨hnum, hdist⟩, ⟨⟨⟨hslot, hengine, haccess⟩, hreset, hrestart⟩, hlists⟩, hlines⟩
    exact ⟨hslot, hengine, haccess, hreset, hrestart, hlists, hlines, hnum, hdist⟩
  · rintro ⟨hslot, hengine, haccess, hreset, hrestart, hlists, hlines, hnum, hdist⟩
    exact ⟨⟨hnum, hdist⟩, ⟨⟨⟨hslot, hengine, haccess⟩, hreset, hrestart⟩, hlists⟩, hlines⟩

end Sys2Proof.Machine
end

section
/-! PROOFS. How the records stay in agreement when nothing they speak of changes, when one slot changes, and when the engine
takes up or lays down its work. -/

namespace Sys2Proof.Machine

variable {s t : State}

/-! ### Places of a Reply List -/

/-- The places a slot owns: one or none. -/
def reservedBy (v : Option Slot) : Nat := if v.any (fun sl => sl.reserved) then 1 else 0

theorem countP_update {α : Type} [DecidableEq α] {p q : α → Bool} {k : α} (h : ∀ j, j ≠ k → q j = p j) :
    ∀ {l : List α}, l.Nodup → k ∈ l → l.countP q + (p k).toNat = l.countP p + (q k).toNat
  | a :: l, hl, hk => by
    have hl' := List.nodup_cons.mp hl
    by_cases hak : a = k
    · subst hak
      have hrest : l.countP q = l.countP p :=
        List.countP_congr fun j hj => by rw [h j fun e => hl'.1 (e ▸ hj)]
      cases hp : p a <;> cases hq : q a <;> simp [hp, hq, hrest]
    · have ih := countP_update h hl'.2 ((List.mem_cons.mp hk).resolve_left (Ne.symm hak))
      simp only [List.countP_cons, h a hak]
      omega

theorem State.reservedPlaces_eq (s : State) (n : LinkId) :
    (s.link n).reservedPlaces = slotIdxs.countP fun k => (s.slot ⟨n, k⟩).any fun sl => sl.reserved := rfl

/-- When one slot changes, the reserved places of its link change by that slot's. -/
theorem State.reservedPlaces_change {i : SlotId} {v : Option Slot} (h : ∀ j, t.slot j = if i = j then v else s.slot j) :
    (t.link i.link).reservedPlaces + reservedBy (s.slot i) = (s.link i.link).reservedPlaces + reservedBy v := by
  obtain ⟨n, k⟩ := i
  have key := countP_update (k := k) (p := fun k => (s.slot ⟨n, k⟩).any fun sl => sl.reserved)
    (q := fun k => (t.slot ⟨n, k⟩).any fun sl => sl.reserved) (fun j hj => by simp [h, Ne.symm hj])
    (l := slotIdxs) (by decide) (mem_slotIdxs k)
  have hv : t.slot ⟨n, k⟩ = v := by rw [h, if_pos rfl]
  rw [hv, ← State.reservedPlaces_eq, ← State.reservedPlaces_eq] at key
  have toNat_eq : ∀ b : Bool, b.toNat = if b = true then 1 else 0 := by decide
  simpa only [reservedBy, toNat_eq] using key

/-- On another link than the changed slot's, the reserved places stay. -/
theorem State.reservedPlaces_other {i : SlotId} {v : Option Slot} (h : ∀ j, t.slot j = if i = j then v else s.slot j)
    {n : LinkId} (hn : n ≠ i.link) : (t.link n).reservedPlaces = (s.link n).reservedPlaces := by
  rw [State.reservedPlaces_eq, State.reservedPlaces_eq]
  refine List.countP_congr fun k _ => ?_
  rw [h, if_neg fun e => hn (congrArg SlotId.link e).symm]

theorem State.reservedPlaces_congr (h : ∀ i, t.slot i = s.slot i) (n : LinkId) :
    (t.link n).reservedPlaces = (s.link n).reservedPlaces := by
  simp only [State.reservedPlaces_eq, h]

/-- A RESETTING link's slots own no place (R30, R158). -/
theorem State.Records.reservedPlaces_resetting (h : s.Records) {n : LinkId} (hn : (s.link n).isResetting = true) :
    (s.link n).reservedPlaces = 0 := by
  rw [State.reservedPlaces_eq, List.countP_eq_zero]
  intro k _ hk
  obtain ⟨sl, hsl, hres⟩ := (Option.any_eq_true ..).mp hk
  obtain ⟨_, _, _, hreserved, _⟩ := Slot.consistent_iff.mp (h.slots _ sl hsl)
  exact (hreserved.mp hres).2 (h.resetting ⟨n, k⟩ sl hn hsl)

/-! ### Where nothing the records speak of changes -/

/-- Two links agree in what the records speak of. -/
def Link.agrees (l l' : Link) : Prop :=
  l'.status = l.status ∧ l'.slots = l.slots ∧ l'.replies = l.replies ∧ l'.transmitter = l.transmitter ∧ l'.outLine = l.outLine

theorem Link.agrees_refl (l : Link) : l.agrees l := ⟨rfl, rfl, rfl, rfl, rfl⟩

theorem Link.agrees_queueNotice (l : Link) (m : Notice) : l.agrees (l.queueNotice m) := by
  simp [Link.agrees]

theorem Link.agrees.trans {l l' l'' : Link} (h : l.agrees l') (h' : l'.agrees l'') : l.agrees l'' := by
  obtain ⟨h1, h2, h3, h4, h5⟩ := h
  obtain ⟨h1', h2', h3', h4', h5'⟩ := h'
  exact ⟨h1'.trans h1, h2'.trans h2, h3'.trans h3, h4'.trans h4, h5'.trans h5⟩

/-- Two states agree in what the records speak of. -/
structure State.Agrees (s t : State) : Prop where
  link : ∀ n, (s.link n).agrees (t.link n)
  port : t.port = s.port
  stride : t.stride = s.stride
  admissions : t.admissions = s.admissions

theorem State.Agrees.refl (s : State) : s.Agrees s := ⟨fun n => (s.link n).agrees_refl, rfl, rfl, rfl⟩

theorem State.Agrees.trans {u : State} (h : s.Agrees t) (h' : t.Agrees u) : s.Agrees u :=
  ⟨fun n => (h.link n).trans (h'.link n), h'.port.trans h.port, h'.stride.trans h.stride,
    h'.admissions.trans h.admissions⟩

theorem State.Agrees.slot (h : s.Agrees t) (i : SlotId) : t.slot i = s.slot i := by
  obtain ⟨_, hslots, _⟩ := h.link i.link
  simp only [State.slot, Link.slot, hslots]

theorem State.Agrees.status (h : s.Agrees t) (n : LinkId) : (t.link n).status = (s.link n).status := (h.link n).1

theorem State.Agrees.placesTaken (h : s.Agrees t) (n : LinkId) : (t.link n).placesTaken = (s.link n).placesTaken := by
  obtain ⟨_, _, hreplies, _⟩ := h.link n
  simp only [Link.placesTaken, hreplies, State.reservedPlaces_congr h.slot]

theorem State.agrees_updLink {n : LinkId} {f : Link → Link} (hf : ∀ l, Link.agrees l (f l)) : s.Agrees (s.updLink n f) := by
  refine ⟨fun m => ?_, rfl, rfl, rfl⟩
  rw [State.link_updLink]
  split
  · exact hf _
  · exact Link.agrees_refl _

theorem State.agrees_queueNotice (n : LinkId) (m : Notice) : s.Agrees (s.queueNotice n m) :=
  State.agrees_updLink fun l => l.agrees_queueNotice m

theorem State.agrees_foldl {β : Type} {f : State → β → State} (hf : ∀ (s : State) b, s.Agrees (f s b)) :
    ∀ (bs : List β) (s : State), s.Agrees (bs.foldl f s)
  | [], s => .refl s
  | b :: bs, s => (hf s b).trans (State.agrees_foldl hf bs (f s b))

theorem State.agrees_setWatch (id : WatchId) (w : Option Watch) : s.Agrees (s.setWatch id w) :=
  ⟨fun _ => Link.agrees_refl _, rfl, rfl, rfl⟩

theorem State.agrees_setSegment (id : SegmentId) (g : Option Segment) : s.Agrees (s.setSegment id g) :=
  ⟨fun _ => Link.agrees_refl _, rfl, rfl, rfl⟩

theorem State.agrees_handReport (r : Option WriteReport) : s.Agrees (s.handReport r) := by
  cases r with
  | none => exact .refl s
  | some r =>
    unfold State.handReport
    refine State.agrees_foldl (fun s id => ?_) watchIds s
    unfold State.reportTo
    split
    · exact .refl s
    · split
      · exact .refl s
      · split
        · exact State.agrees_setWatch _ _
        · exact (State.agrees_setWatch _ _).trans (State.agrees_queueNotice _ _)

theorem State.agrees_dropWatchesOn (seg : SegmentId) : s.Agrees (s.dropWatchesOn seg) := by
  unfold State.dropWatchesOn
  refine State.agrees_foldl (fun s id => ?_) watchIds s
  unfold State.dropWatchOn
  split
  · exact .refl s
  · split
    · exact (State.agrees_setWatch _ _).trans (State.agrees_queueNotice _ _)
    · exact .refl s

theorem State.Engine.congr (h : s.Engine) (hruns : ∀ i, t.runs i = s.runs i) (hstops : ∀ i, t.stops i = s.stops i)
    (hstride : t.stride = s.stride) (hport : ∀ i, t.strideInProgress i = s.strideInProgress i) : t.Engine := by
  refine ⟨fun i j hi hj => ?_, fun i => ?_⟩
  · rw [hruns, hstops] at hi hj
    exact h.one i j hi hj
  · have hasked : t.strideAsked i = s.strideAsked i := by simp only [State.strideAsked, hstride]
    rw [hruns, hstops, hasked, hport]
    exact h.fits i

theorem State.strideInProgress_congr (hport : t.port = s.port) (i : SlotId) :
    t.strideInProgress i = s.strideInProgress i := by simp only [State.strideInProgress, hport]

theorem Link.ListFits.mono {l l' : Link} (h : l.ListFits) (hstatus : l'.status = l.status)
    (hplaces : l'.placesTaken ≤ l.placesTaken) (hreplies : l.isResetting = true → l'.replies.length ≤ l.replies.length) :
    l'.ListFits := by
  have hreset : l'.isResetting = l.isResetting := by simp only [Link.isResetting, hstatus]
  refine ⟨hplaces.trans h.all, fun t ht => hplaces.trans (h.awaiting t (hstatus ▸ ht)), fun hr => ?_⟩
  rw [hreset] at hr
  exact (hreplies hr).trans (h.resetting hr)

/-- A line stays in form with its transmitter. -/
theorem Link.LineFits.congr {l l' : Link} (h : l.LineFits) (htrans : l'.transmitter = l.transmitter)
    (hline : l'.outLine = l.outLine) : l'.LineFits :=
  ⟨fun e => htrans.trans (h.low (hline.symm.trans e)), fun e e' => h.high (hline.symm.trans e) (htrans.symm.trans e')⟩

/-- The records stay in agreement where nothing they speak of changes. -/
theorem State.Agrees.records (hst : s.Agrees t) (h : s.Records) : t.Records := by
  have hreset : ∀ n, (t.link n).isResetting = (s.link n).isResetting := fun n => by
    simp only [Link.isResetting, hst.status n]
  have hruns : ∀ i, t.runs i = s.runs i := fun i => by simp only [State.runs, hst.slot]
  have hstops : ∀ i, t.stops i = s.stops i := fun i => by simp only [State.stops, hst.slot]
  refine ⟨fun i sl hi => ?_, h.engine.congr hruns hstops hst.stride (State.strideInProgress_congr hst.port),
    fun a ha hlive => ?_, fun i sl hr hi => ?_, fun n m r hn => ?_, fun n => ?_, fun n => ?_, fun i sl hi => ?_,
    fun i j sl sl' hi hj hij => ?_⟩
  · exact h.slots i sl (hst.slot i ▸ hi)
  · rw [hst.slot]; exact h.access a (hst.port ▸ ha) hlive
  · exact h.resetting i sl (hreset i.link ▸ hr) (hst.slot i ▸ hi)
  · rw [hst.status] at hn ⊢; exact h.restart n m r hn
  · obtain ⟨hstatus, _, hreplies, _⟩ := hst.link n
    exact (h.lists n).mono hstatus (hst.placesTaken n).le fun _ => by rw [hreplies]
  · obtain ⟨_, _, _, htrans, hline⟩ := hst.link n
    exact (h.lines n).congr htrans hline
  · rw [hst.admissions]; exact h.numbered i sl (hst.slot i ▸ hi)
  · exact h.distinct i j sl sl' (hst.slot i ▸ hi) (hst.slot j ▸ hj) hij

/-! ### Where one slot changes -/

/-- A slot's new value, after `v`: FREE, or a record in form with the tag and number of the old, STOPPING where that was. -/
def slotFollows (v w : Option Slot) : Prop :=
  ∀ sl', w = some sl' → sl'.consistent = true ∧ ∃ sl, v = some sl ∧ sl'.tag = sl.tag ∧ sl'.admission = sl.admission ∧
    (sl.state = .stopping → sl'.state = .stopping)

theorem slotFollows_none (v : Option Slot) : slotFollows v none := fun _ h => nomatch h

theorem State.Records.follows_refl (h : s.Records) (i : SlotId) : slotFollows (s.slot i) (s.slot i) :=
  fun sl hsl => ⟨h.slots i sl hsl, sl, hsl, rfl, rfl, id⟩

/-- Tags and admission numbers stay distinct, and the numbers below the count, when every slot follows its old record. -/
theorem State.Records.numbers_follow (h : s.Records) (hslot : ∀ i, slotFollows (s.slot i) (t.slot i))
    (hadm : t.admissions = s.admissions) : (∀ i sl, t.slot i = some sl → sl.admission < t.admissions) ∧
      ∀ i j sl sl', t.slot i = some sl → t.slot j = some sl' → i ≠ j →
        sl.admission ≠ sl'.admission ∧ (i.link = j.link → sl.tag ≠ sl'.tag) := by
  refine ⟨fun i sl' hi => ?_, fun i j sl sl' hi hj hij => ?_⟩
  · obtain ⟨_, sl, hsl, _, hnum, _⟩ := hslot i sl' hi
    rw [hadm, hnum]
    exact h.numbered i sl hsl
  · obtain ⟨_, a, ha, htag, hnum, _⟩ := hslot i sl hi
    obtain ⟨_, b, hb, htag', hnum', _⟩ := hslot j sl' hj
    rw [htag, hnum, htag', hnum']
    exact h.distinct i j a b ha hb hij

/-- What a change that keeps every link's state, and the admission count, has to show of slots, engine, access, lines and Reply
Lists. -/
theorem State.Records.of_slots (h : s.Records) (hslot : ∀ i, slotFollows (s.slot i) (t.slot i))
    (hstatus : ∀ n, (t.link n).status = (s.link n).status) (hlines : ∀ n, (t.link n).LineFits)
    (hadm : t.admissions = s.admissions) (hengine : t.Engine) (haccess : t.AccessFits)
    (hlists : ∀ n, (t.link n).placesTaken ≤ (s.link n).placesTaken ∧
      ((s.link n).isResetting = true → (t.link n).replies.length ≤ (s.link n).replies.length)) : t.Records := by
  have hreset : ∀ n, (t.link n).isResetting = (s.link n).isResetting := fun n => by
    simp only [Link.isResetting, hstatus n]
  refine ⟨fun i sl' hi => (hslot i sl' hi).1, hengine, haccess, fun i sl' hr hi => ?_, fun n m r hn => ?_, fun n => ?_,
    hlines, fun i sl' hi => ?_, fun i j sl sl' hi hj hij => ?_⟩
  · obtain ⟨_, sl, hsl, _, _, hstop⟩ := hslot i sl' hi
    exact hstop (h.resetting i sl (hreset i.link ▸ hr) hsl)
  · rw [hstatus] at hn ⊢; exact h.restart n m r hn
  · exact (h.lists n).mono (hstatus n) (hlists n).1 (hlists n).2
  · exact (h.numbers_follow hslot hadm).1 i sl' hi
  · exact (h.numbers_follow hslot hadm).2 i j sl sl' hi hj hij

/-- What the change of slot i to `v` has to show. -/
theorem State.Records.change (h : s.Records) {i : SlotId} {v : Option Slot} (hslot : ∀ j, t.slot j = if i = j then v else s.slot j)
    (hv : slotFollows (s.slot i) v)
    (hlink : ∀ n, (t.link n).status = (s.link n).status ∧ (t.link n).transmitter = (s.link n).transmitter ∧
      (t.link n).outLine = (s.link n).outLine)
    (hadm : t.admissions = s.admissions) (hengine : t.Engine) (haccess : t.AccessFits)
    (hother : ∀ n, n ≠ i.link → (t.link n).replies = (s.link n).replies)
    (hplaces : (t.link i.link).replies.length + reservedBy v ≤ (s.link i.link).replies.length + reservedBy (s.slot i))
    (hreset : (s.link i.link).isResetting = true → (t.link i.link).replies.length ≤ (s.link i.link).replies.length) :
    t.Records := by
  refine h.of_slots (fun j => ?_) (fun n => (hlink n).1) (fun n => (h.lines n).congr (hlink n).2.1 (hlink n).2.2) hadm hengine
    haccess fun n => ?_
  · rw [hslot]
    split
    · rename_i hij; subst hij; exact hv
    · exact h.follows_refl j
  · by_cases hn : n = i.link
    · subst hn
      have := State.reservedPlaces_change hslot
      exact ⟨by simp only [Link.placesTaken]; omega, hreset⟩
    · have := State.reservedPlaces_other hslot hn
      simp only [Link.placesTaken, this, hother n hn, le_refl, implies_true, and_self]

/-! ### The engine at work and idle -/

/-- An engine that works for no slot, with no stride asked for and none at the port. -/
theorem State.Engine.of_idle (hnone : ∀ i, (s.runs i || s.stops i) = false) (hstride : s.stride = none)
    (hport : ∀ r, s.port ≠ .stride r) : s.Engine := by
  refine ⟨fun i j hi _ => absurd hi (by rw [hnone]; exact Bool.false_ne_true), fun i => ?_⟩
  have hasked : s.strideAsked i = false := by simp [State.strideAsked, hstride]
  have hprog : s.strideInProgress i = false := by
    rw [← Bool.not_eq_true, State.strideInProgress_iff]
    rintro ⟨r, hr, _⟩
    exact hport r hr
  have hi := Bool.or_eq_false_iff.mp (hnone i)
  rw [hasked, hprog, hi.1, hi.2]; rfl

/-- An engine that works for the RUNNING slot i, whose stride is asked for. -/
theorem State.Engine.of_asked {i : SlotId} {r : Stride} (hruns : ∀ j, s.runs j = decide (i = j)) (hstops : ∀ j, s.stops j = false)
    (hstride : s.stride = some r) (howner : r.owner = i) (hport : ∀ r, s.port ≠ .stride r) : s.Engine := by
  refine ⟨fun j k hj hk => ?_, fun j => ?_⟩
  · simp only [hruns, hstops, Bool.or_false, decide_eq_true_eq] at hj hk
    exact hj.symm.trans hk
  · have hprog : s.strideInProgress j = false := by
      rw [← Bool.not_eq_true, State.strideInProgress_iff]
      rintro ⟨r, hr, _⟩
      exact hport r hr
    rw [hruns, hstops, hprog]
    simp only [State.strideAsked, hstride, Option.any_some, howner]
    cases decide (i = j) <;> rfl

/-- With the engine IDLE no stride is outstanding. -/
theorem State.Engine.idle (h : s.Engine) (hbusy : s.engineBusy = false) :
    (∀ i, (s.runs i || s.stops i) = false) ∧ s.stride = none ∧ ∀ r, s.port ≠ .stride r := by
  have hnone : ∀ i, (s.runs i || s.stops i) = false := fun i => by
    rw [← Bool.not_eq_true, State.inEngine_iff]
    rintro ⟨sl, hsl, hin⟩
    have := List.any_eq_false.mp hbusy (i, sl) (s.mem_busySlots.mpr hsl)
    cases hs : sl.state <;> simp_all [SlotState.inEngine]
  have hfits : ∀ i, s.strideAsked i = false ∧ s.strideInProgress i = false := fun i => by
    have hi := Bool.or_eq_false_iff.mp (hnone i)
    have := h.fits i
    rw [hi.1, hi.2] at this
    simpa [outstandingFits, and_comm] using this
  refine ⟨hnone, ?_, fun r hr => ?_⟩
  · by_contra hne
    obtain ⟨r, hr⟩ := Option.ne_none_iff_exists'.mp hne
    have := (hfits r.owner).1
    rw [State.strideAsked_iff.mpr ⟨r, hr, rfl⟩] at this
    cases this
  · have := (hfits r.owner).2
    rw [State.strideInProgress_iff.mpr ⟨r, hr, rfl⟩] at this
    cases this

/-- With a stride in progress at the port, the engine works for its owner alone, and none is asked for. -/
theorem State.Engine.striding (h : s.Engine) {r : Stride} {sl : Slot} (hport : s.port = .stride r)
    (hslot : s.slot r.owner = some sl) (hin : sl.state.inEngine = true) :
    (∀ i, i ≠ r.owner → (s.runs i || s.stops i) = false) ∧ s.stride = none := by
  have howner : (s.runs r.owner || s.stops r.owner) = true := State.inEngine_iff.mpr ⟨sl, hslot, hin⟩
  have hprog : s.strideInProgress r.owner = true := State.strideInProgress_iff.mpr ⟨r, hport, rfl⟩
  have hother : ∀ i, i ≠ r.owner → (s.runs i || s.stops i) = false := fun i hi => by
    rw [← Bool.not_eq_true]
    exact fun hb => hi (h.one i r.owner hb howner)
  refine ⟨hother, ?_⟩
  by_contra hne
  obtain ⟨r', hr'⟩ := Option.ne_none_iff_exists'.mp hne
  have hasked : s.strideAsked r'.owner = true := State.strideAsked_iff.mpr ⟨r', hr', rfl⟩
  have hfits := h.fits r'.owner
  by_cases he : r'.owner = r.owner
  · rw [he] at hfits hasked
    rw [hasked, hprog] at hfits
    revert hfits howner
    cases s.runs r.owner <;> cases s.stops r.owner <;> simp [outstandingFits]
  · have hi := Bool.or_eq_false_iff.mp (hother r'.owner he)
    rw [hi.1, hi.2, hasked] at hfits
    simp [outstandingFits] at hfits

/-- The engine's states of a slot follow from its value. -/
theorem State.runs_change {i : SlotId} {v : Option Slot} (h : ∀ j, t.slot j = if i = j then v else s.slot j) (j : SlotId) :
    t.runs j = if i = j then v.any (fun sl => decide (sl.state = .running)) else s.runs j := by
  unfold State.runs
  rw [h]
  split <;> rfl

theorem State.stops_change {i : SlotId} {v : Option Slot} (h : ∀ j, t.slot j = if i = j then v else s.slot j) (j : SlotId) :
    t.stops j = if i = j then v.any (fun sl => decide (sl.state = .stopping)) else s.stops j := by
  unfold State.stops
  rw [h]
  split <;> rfl

/-- The state of a slot, as the engine sees it: not the engine's, RUNNING or STOPPING. -/
def engineSame (v w : Option Slot) : Prop :=
  w.any (fun sl => decide (sl.state = .running)) = v.any (fun sl => decide (sl.state = .running)) ∧
    w.any (fun sl => decide (sl.state = .stopping)) = v.any (fun sl => decide (sl.state = .stopping))

/-- A change of a slot that is nothing to the engine. -/
theorem State.Engine.change (h : s.Engine) {i : SlotId} {v : Option Slot} (hslot : ∀ j, t.slot j = if i = j then v else s.slot j)
    (hv : engineSame (s.slot i) v) (hstride : t.stride = s.stride) (hport : t.port = s.port) : t.Engine := by
  refine h.congr (fun j => ?_) (fun j => ?_) hstride (State.strideInProgress_congr hport)
  · rw [State.runs_change hslot]
    split
    · rename_i hij; subst hij; exact hv.1
    · rfl
  · rw [State.stops_change hslot]
    split
    · rename_i hij; subst hij; exact hv.2
    · rfl

/-- A change of a slot that no direct access is in progress for. -/
theorem State.AccessFits.change (h : s.AccessFits) {i : SlotId} {v : Option Slot}
    (hslot : ∀ j, t.slot j = if i = j then v else s.slot j) (hport : t.port = s.port)
    (hnot : ∀ a, s.port = .direct a → a.live = true → a.owner ≠ i) : t.AccessFits := by
  intro a ha hlive
  rw [hport] at ha
  rw [hslot, if_neg (Ne.symm (hnot a ha hlive))]
  exact h a ha hlive

/-- A slot that is not WAITING has no direct access in progress. -/
theorem State.AccessFits.owner_ne (h : s.AccessFits) {i : SlotId} (hi : ∀ sl, s.slot i = some sl → sl.state ≠ .waiting) :
    ∀ a, s.port = .direct a → a.live = true → a.owner ≠ i := by
  rintro a ha hlive rfl
  obtain ⟨sl, hsl, hwait, _⟩ := h a ha hlive
  exact hi sl hsl hwait

end Sys2Proof.Machine
end

section
/-! PROOFS. The records stay in agreement in what follows in an event: dispatch, the port's choice, resets that complete, the
arbiters; and in ticks, expiries and the end of a transmission. -/

namespace Sys2Proof.Machine

variable {s t : State}

/-! ### Links after an update of one -/

/-- What the records speak of in a link beside its slots and replies. -/
def Link.sameLines (l l' : Link) : Prop :=
  l'.status = l.status ∧ l'.transmitter = l.transmitter ∧ l'.outLine = l.outLine

theorem Link.sameLines_refl (l : Link) : l.sameLines l := ⟨rfl, rfl, rfl⟩

theorem State.sameLines_updLink {n : LinkId} {f : Link → Link} (hf : ∀ l, Link.sameLines l (f l)) (m : LinkId) :
    (s.link m).sameLines ((s.updLink n f).link m) := by
  rw [State.link_updLink]
  split
  · exact hf _
  · exact Link.sameLines_refl _

theorem State.replies_updLink_other {n m : LinkId} (hm : m ≠ n) (f : Link → Link) :
    ((s.updLink n f).link m).replies = (s.link m).replies := by
  rw [State.link_updLink_ne _ (Ne.symm hm)]

theorem Link.sameLines_setSlot (k : SlotIdx) (v : Option Slot) (l : Link) : l.sameLines (l.setSlot k v) := ⟨rfl, rfl, rfl⟩

theorem Link.sameLines_answerOutcome (k : SlotIdx) (sl : Slot) (o : Outcome) (l : Link) :
    l.sameLines (l.answerOutcome k sl o) := ⟨rfl, rfl, rfl⟩

theorem Link.sameLines_holdOutcome (k : SlotIdx) (sl : Slot) (o : Outcome) (l : Link) :
    l.sameLines (l.holdOutcome k sl o) := by
  simp only [Link.holdOutcome]
  split
  · simp [Link.sameLines]
  · exact ⟨rfl, rfl, rfl⟩

theorem Link.replies_holdOutcome (k : SlotIdx) (sl : Slot) (o : Outcome) (l : Link) :
    (l.holdOutcome k sl o).replies = l.replies := by
  simp only [Link.holdOutcome]
  split
  · rw [Link.queueNotice_replies]; rfl
  · rfl

theorem Link.sameLines_dropHeld (k : SlotIdx) (sl : Slot) (l : Link) : l.sameLines (l.dropHeld k sl) := by
  have h := (l.setSlot k none).agrees_queueNotice (.dropped sl.tag sl.job.kind)
  obtain ⟨h1, _, _, h4, h5⟩ := h
  exact ⟨h1, h4, h5⟩

theorem Link.replies_dropHeld (k : SlotIdx) (sl : Slot) (l : Link) : (l.dropHeld k sl).replies = l.replies := by
  show ((l.setSlot k none).queueNotice _).replies = _
  rw [Link.queueNotice_replies]; rfl

/-! ### Changes of a slot that leave the Reply List -/

/-- A slot set without any other change. -/
theorem State.Records.setSlot (h : s.Records) {i : SlotId} {v : Option Slot} (hv : slotFollows (s.slot i) v)
    (hengine : engineSame (s.slot i) v) (hreserved : reservedBy v ≤ reservedBy (s.slot i))
    (hnot : ∀ a, s.port = .direct a → a.live = true → a.owner ≠ i) : (s.setSlot i v).Records := by
  have hslot : ∀ j, (s.setSlot i v).slot j = if i = j then v else s.slot j := fun j => s.slot_setSlot i j v
  have hreplies : ∀ n, ((s.setSlot i v).link n).replies = (s.link n).replies := fun n => by
    rw [State.setSlot, State.link_updLink]
    split <;> rfl
  refine h.change hslot hv (State.sameLines_updLink (Link.sameLines_setSlot i.idx v)) rfl (h.engine.change hslot hengine rfl rfl)
    (h.access.change hslot rfl hnot) (fun n _ => hreplies n) ?_ (fun _ => by rw [hreplies])
  rw [hreplies]; omega

/-- The record of a slot in a given state. -/
theorem engineSame_of_state {sl sl' : Slot} (h : sl'.state = sl.state) : engineSame (some sl) (some sl') := by
  simp only [engineSame, Option.any_some, h, and_self]

theorem engineSame_of_outside {v w : Option Slot} (hv : ∀ sl, v = some sl → sl.state.inEngine = false)
    (hw : ∀ sl, w = some sl → sl.state.inEngine = false) : engineSame v w := by
  have key : ∀ {x : Option Slot}, (∀ sl, x = some sl → sl.state.inEngine = false) →
      x.any (fun sl => decide (sl.state = .running)) = false ∧ x.any (fun sl => decide (sl.state = .stopping)) = false := by
    intro x hx
    cases x with
    | none => exact ⟨rfl, rfl⟩
    | some sl =>
      have := hx sl rfl
      cases hs : sl.state <;> simp_all [SlotState.inEngine]
  exact ⟨(key hw).1.trans (key hv).1.symm, (key hw).2.trans (key hv).2.symm⟩

/-! ### Dispatch and the port's choice -/

theorem State.Records.startOperation (h : s.Records) {i : SlotId} {sl : Slot} (hslot : s.slot i = some sl)
    (hstate : sl.state = .queued ∨ sl.state = .suspended) (hbusy : s.engineBusy = false) :
    (s.startOperation i sl).Records := by
  obtain ⟨hnone, _, hport⟩ := h.engine.idle hbusy
  have hset : ∀ j, (s.startOperation i sl).slot j = if i = j then some { sl with state := .running } else s.slot j :=
    fun j => State.slot_startOperation i j sl
  have hreplies : ∀ n, ((s.startOperation i sl).link n).replies = (s.link n).replies := fun n => by
    show ((s.setSlot i _).link n).replies = _
    rw [State.setSlot, State.link_updLink]
    split <;> rfl
  refine h.change hset ?_ (State.sameLines_updLink (Link.sameLines_setSlot i.idx _)) rfl
    (State.Engine.of_asked (i := i) (fun j => ?_) (fun j => ?_) rfl rfl hport)
    (h.access.change hset rfl (h.access.owner_ne fun sl' hsl' => ?_)) (fun n _ => hreplies n) ?_ (fun _ => by rw [hreplies])
  · rintro _ ⟨⟩
    refine ⟨Slot.consistent_running hstate (h.slots i sl hslot), sl, hslot, rfl, rfl, fun e => ?_⟩
    rcases hstate with hs | hs <;> simp [hs] at e
  · rw [State.runs_change hset]
    split
    · simp [*]
    · simp [*, (Bool.or_eq_false_iff.mp (hnone j)).1]
  · rw [State.stops_change hset]
    split
    · rfl
    · exact (Bool.or_eq_false_iff.mp (hnone j)).2
  · obtain rfl := Option.some.inj (hslot.symm.trans hsl')
    rcases hstate with hs | hs <;> simp [hs]
  · rw [hreplies, hslot]; rfl

theorem State.Records.dispatch (h : s.Records) : s.dispatch.Records := by
  rcases s.dispatch_cases with he | ⟨i, sl, hslot, hstate, _, hbusy, he⟩ <;> rw [he]
  · exact h
  · exact h.startOperation hslot hstate hbusy

/-- Where slots, links and the admission count stay, engine and access are all there is to show. -/
theorem State.Records.of_port (h : s.Records) (hlinks : t.links = s.links) (hadm : t.admissions = s.admissions)
    (hengine : t.Engine) (haccess : t.AccessFits) : t.Records := by
  have hlink : ∀ n, t.link n = s.link n := fun n => by simp only [State.link, hlinks]
  refine h.of_slots (fun i => ?_) (fun n => by rw [hlink]) (fun n => by rw [hlink]; exact h.lines n) hadm hengine haccess
    fun n => ?_
  · rw [State.slot_of_links hlinks]; exact h.follows_refl i
  · rw [hlink]; exact ⟨le_refl _, fun _ => le_refl _⟩

theorem State.Records.startStride (h : s.Records) {r : Stride} (hport : s.port = .idle) (hstride : s.stride = some r) :
    (s.startStride r).Records := by
  refine h.of_port rfl rfl ⟨h.engine.one, fun i => ?_⟩ fun a ha => nomatch ha
  have hfits := h.engine.fits i
  have hasked : s.strideAsked i = decide (r.owner = i) := by simp [State.strideAsked, hstride]
  have hprog : s.strideInProgress i = false := by simp [State.strideInProgress, hport]
  have hasked' : (s.startStride r).strideAsked i = false := rfl
  have hprog' : (s.startStride r).strideInProgress i = decide (r.owner = i) := rfl
  rw [hasked, hprog] at hfits
  rw [hasked', hprog']
  show outstandingFits (s.runs i) (s.stops i) false (decide (r.owner = i)) = true
  revert hfits
  cases s.runs i <;> cases s.stops i <;> simp [outstandingFits]

theorem State.Records.startDirect (h : s.Records) {i : SlotId} {sl : Slot} (hport : s.port = .idle)
    (hslot : s.slot i = some sl) (hwait : sl.state = .waiting) : (s.startDirect i sl).Records := by
  refine h.of_port rfl rfl (h.engine.congr (fun _ => rfl) (fun _ => rfl) rfl fun j => ?_) fun a ha _ => ?_
  · simp [State.strideInProgress, hport]
  · cases ha; exact ⟨sl, hslot, hwait, rfl⟩

theorem State.Records.portChoose (h : s.Records) : s.portChoose.Records := by
  rcases s.portChoose_cases with he | ⟨r, hport, hstride, he⟩ | ⟨i, sl, hport, hslot, hwait, _, he⟩ <;> rw [he]
  · exact h
  · exact h.startStride hport hstride
  · exact h.startDirect hport hslot hwait

/-! ### Links that change, slots that stay -/

/-- What is to show where slots, port and stride stay. -/
theorem State.Records.of_links (h : s.Records) (hslot : ∀ i, t.slot i = s.slot i) (hport : t.port = s.port)
    (hstride : t.stride = s.stride) (hnum : ∀ i sl, s.slot i = some sl → sl.admission < t.admissions)
    (hreset : ∀ n, (t.link n).isResetting = true → (s.link n).isResetting = true)
    (hrestart : ∀ n m r, (t.link n).status = .resetting (.restart r) → (t.link m).status = .resetting (.restart r))
    (hlists : ∀ n, (t.link n).ListFits) (hlines : ∀ n, (t.link n).LineFits) : t.Records := by
  refine ⟨fun i sl hi => h.slots i sl (hslot i ▸ hi),
    h.engine.congr (fun i => by simp only [State.runs, hslot]) (fun i => by simp only [State.stops, hslot]) hstride
      (State.strideInProgress_congr hport), fun a ha hlive => ?_, fun i sl hr hi => ?_, hrestart, hlists, hlines,
    fun i sl hi => hnum i sl (hslot i ▸ hi), fun i j sl sl' hi hj hij => ?_⟩
  · rw [hslot]; exact h.access a (hport ▸ ha) hlive
  · exact h.resetting i sl (hreset _ hr) (hslot i ▸ hi)
  · exact h.distinct i j sl sl' (hslot i ▸ hi) (hslot j ▸ hj) hij

/-- Slots, port, stride, admission count and link states stay; lines and Reply Lists may change within their forms. -/
theorem State.Records.of_lines (h : s.Records) (hslot : ∀ i, t.slot i = s.slot i) (hport : t.port = s.port)
    (hstride : t.stride = s.stride) (hadm : t.admissions = s.admissions)
    (hstatus : ∀ n, (t.link n).status = (s.link n).status)
    (hreplies : ∀ n, (t.link n).replies.length ≤ (s.link n).replies.length)
    (hlines : ∀ n, (t.link n).LineFits) : t.Records := by
  refine h.of_links hslot hport hstride (fun i sl hi => hadm ▸ h.numbered i sl hi) (fun n hr => ?_) (fun n m r hn => ?_)
    (fun n => (h.lists n).mono (hstatus n) ?_ fun _ => hreplies n) hlines
  · simpa only [Link.isResetting, hstatus n] using hr
  · rw [hstatus] at hn ⊢; exact h.restart n m r hn
  · simp only [Link.placesTaken, State.reservedPlaces_congr hslot]
    exact Nat.add_le_add_right (hreplies n) _

/-! ### The arbiters, ends of transmissions, ticks -/

theorem OutLine.start_cases (o : OutLine) : o.start = .gap ∨ o.start = .high := by cases o <;> simp [OutLine.start]

theorem Link.lineFits_started {l : Link} {o : OutLine} (hline : l.outLine = o.start) (htrans : l.transmitter ≠ .free) :
    l.LineFits := by
  rcases o.start_cases with h | h <;> rw [h] at hline
  · exact ⟨fun e => by simp [hline] at e, fun e => by simp [hline] at e⟩
  · exact ⟨fun e => by simp [hline] at e, fun _ => htrans⟩

theorem Link.LineFits.arbitrate {l : Link} (h : l.LineFits) : l.arbitrate.LineFits := by
  unfold Link.arbitrate
  split
  · exact h
  · split
    · exact Link.lineFits_started (o := l.outLine) rfl (by simp [Link.startNotice])
    · split
      · exact Link.lineFits_started (o := l.outLine) rfl (by simp [Link.startReply])
      · exact h

theorem State.Records.arbitrate (h : s.Records) : s.arbitrate.Records :=
  h.of_lines (State.slot_arbitrate _) rfl rfl rfl (fun n => by simp) (fun n => by simp)
    fun n => by rw [State.link_arbitrate]; exact (h.lines n).arbitrate

/-- The end of a transmission, in what the records speak of. -/
theorem Link.endTransmission_cases (l : Link) : l.endTransmission = l ∨
    l.endTransmission.status = l.status ∧ l.endTransmission.outLine = .gap ∧
      l.endTransmission.replies.length ≤ l.replies.length := by
  unfold Link.endTransmission
  split
  · exact .inl rfl
  · exact .inr ⟨rfl, rfl, by simp⟩
  · unfold Link.queueOverflow
    split
    · exact .inr ⟨rfl, rfl, le_refl _⟩
    · refine .inr ?_
      have h := Link.agrees_queueNotice { l with transmitter := .free, outLine := .gap, notices := l.notices.drop 1 }
        (.overflow l.lost)
      obtain ⟨h1, _, h3, _, h5⟩ := h
      exact ⟨h1, h5, (congrArg List.length h3).le⟩

theorem State.Records.endTransmission (h : s.Records) (n : LinkId) : (s.updLink n Link.endTransmission).Records := by
  refine h.of_lines (fun i => s.slot_updLink Link.slot_endTransmission i) rfl rfl rfl (fun m => ?_) (fun m => ?_) fun m => ?_ <;>
    rw [State.link_updLink] <;> split
  · rcases (s.link m).endTransmission_cases with he | ⟨he, _, _⟩ <;> rw [he]
  · rfl
  · rcases (s.link m).endTransmission_cases with he | ⟨_, _, he⟩
    · rw [he]
    · exact he
  · exact le_refl _
  · rcases (s.link m).endTransmission_cases with he | ⟨_, he, _⟩
    · rw [he]; exact h.lines m
    · exact ⟨fun e => by simp [he] at e, fun e => by simp [he] at e⟩
  · exact h.lines m

theorem Link.LineFits.ticks {l : Link} (h : l.LineFits) (k : Nat) : (l.ticks k).LineFits := by
  have hline : (l.ticks k).outLine = l.outLine.tick l.transmitter := rfl
  have htrans : (l.ticks k).transmitter = l.transmitter := rfl
  by_cases hgap : l.outLine = .gap
  · rw [hgap] at hline
    by_cases hfree : l.transmitter = .free
    · exact ⟨fun _ => hfree, fun e => by simp [hline, OutLine.tick, hfree] at e⟩
    · exact ⟨fun e => by simp [hline, OutLine.tick, hfree] at e, fun _ => hfree⟩
  · exact h.congr htrans (by simp [hline, OutLine.tick, hgap])

theorem State.Records.ticks (h : s.Records) (k : Nat) : (s.ticks k).Records := by
  have hmap : ∀ (p : Slot → Bool), (∀ sl, p (sl.ticks k) = p sl) → ∀ i, ((s.ticks k).slot i).any p = (s.slot i).any p := by
    intro p hp i
    rw [State.ticks_slot, Option.any_map]
    exact congrArg (fun q => (s.slot i).any q) (funext hp)
  refine h.of_slots (fun i sl' hi => ?_) (fun n => by simp) (fun n => ?_) rfl
    (h.engine.congr (hmap _ fun _ => rfl) (hmap _ fun _ => rfl) rfl fun _ => rfl) (fun a ha hlive => ?_) fun n => ?_
  · rw [State.ticks_slot, Option.map_eq_some_iff] at hi
    obtain ⟨sl, hsl, rfl⟩ := hi
    exact ⟨Slot.consistent_ticks k (h.slots i sl hsl), sl, hsl, rfl, rfl, id⟩
  · rw [State.ticks_link]; exact (h.lines n).ticks k
  · obtain ⟨sl, hsl, hwait, hjob⟩ := h.access a ha hlive
    exact ⟨sl.ticks k, by rw [State.ticks_slot, hsl]; rfl, hwait, hjob⟩
  · have hreserved : ((s.ticks k).link n).reservedPlaces = (s.link n).reservedPlaces := by
      rw [State.reservedPlaces_eq, State.reservedPlaces_eq]
      exact List.countP_congr fun j _ => by rw [hmap (fun sl => sl.reserved) fun _ => rfl]
    rw [Link.placesTaken, hreserved, State.ticks_link]
    exact ⟨le_refl _, fun _ => le_refl _⟩

/-! ### Expiries -/

/-- A budget timer runs in phase UNANSWERED, outside STOPPING and HELD, and its slot owns a place. -/
theorem Slot.of_budgetTimer {sl : Slot} (h : sl.consistent = true) (ht : sl.budgetTimer.isSome = true) :
    sl.phase = .unanswered ∧ sl.reserved = true ∧ sl.state ≠ .stopping := by
  obtain ⟨_, _, _, hres, hbud, _⟩ := Slot.consistent_iff.mp h
  exact ⟨(hres.mp (hbud ht)).1, hbud ht, (hres.mp (hbud ht)).2⟩

theorem State.Records.budgetExpires (h : s.Records) {i : SlotId} {sl : Slot} (hslot : s.slot i = some sl)
    (ht : sl.budgetTimer.isSome = true) : (s.budgetExpires i sl).Records := by
  obtain ⟨hphase, hreserved, hstop⟩ := Slot.of_budgetTimer (h.slots i sl hslot) ht
  have hset : ∀ j, (s.budgetExpires i sl).slot j = if i = j then some sl.deferred else s.slot j :=
    fun j => State.slot_budgetExpires i j sl
  have hlink : (s.budgetExpires i sl).link i.link = (s.link i.link).deferSlot i.idx sl := State.link_updLink_self _ _ _
  refine h.change hset ?_ (State.sameLines_updLink fun _ => ⟨rfl, rfl, rfl⟩) rfl
    (h.engine.change hset (hslot ▸ engineSame_of_state rfl) rfl rfl) ?_ (fun n hn => State.replies_updLink_other hn _) ?_ ?_
  · rintro _ ⟨⟩
    exact ⟨Slot.consistent_deferred hphase (h.slots i sl hslot), sl, hslot, rfl, rfl, id⟩
  · intro a ha hlive
    obtain ⟨sl', hsl', hwait, hjob⟩ := h.access a ha hlive
    rw [hset]
    split
    · rename_i hij
      rw [← hij, hslot] at hsl'
      obtain rfl := Option.some.inj hsl'
      exact ⟨_, rfl, hwait, hjob⟩
    · exact ⟨sl', hsl', hwait, hjob⟩
  · rw [hlink, hslot]
    simp [Link.deferSlot, reservedBy, hreserved, Slot.deferred]
  · exact fun hr => absurd (h.resetting i sl hr hslot) hstop

theorem State.Records.holdExpires (h : s.Records) {i : SlotId} {sl : Slot} (hslot : s.slot i = some sl)
    (ht : sl.holdTimer.isSome = true) : (s.holdExpires i sl).Records := by
  have hheld : sl.state = .held := by
    obtain ⟨_, hhold, _⟩ := Slot.consistent_iff.mp (h.slots i sl hslot)
    exact hhold ht
  have hset : ∀ j, (s.holdExpires i sl).slot j = if i = j then none else s.slot j :=
    fun j => State.slot_holdExpires i j sl
  have hreplies : ((s.holdExpires i sl).link i.link).replies = (s.link i.link).replies := by
    rw [State.holdExpires, State.link_updLink_self, Link.replies_dropHeld]
  refine h.change hset (slotFollows_none _) (State.sameLines_updLink (Link.sameLines_dropHeld i.idx sl)) rfl
    (h.engine.change hset (engineSame_of_outside (fun sl' hsl' => ?_) fun _ e => nomatch e) rfl rfl)
    (h.access.change hset rfl (h.access.owner_ne fun sl' hsl' => ?_)) (fun n hn => State.replies_updLink_other hn _) ?_
    (fun _ => by rw [hreplies])
  · obtain rfl := Option.some.inj (hslot.symm.trans hsl')
    rw [hheld]; rfl
  · obtain rfl := Option.some.inj (hslot.symm.trans hsl')
    rw [hheld]; exact nofun
  · rw [hreplies]; simp [reservedBy]

end Sys2Proof.Machine
end

section
/-! PROOFS. Request frames and requests: each is read back from the other (R170 to R175). -/

namespace Sys2Proof.Machine

/-! ### Fields -/

theorem octet_of_toNat (o : Octet) : octet o.toNat = o := by
  rw [octet, BitVec.ofNat_toNat, BitVec.setWidth_eq]

theorem numHalf_num (a b : Octet) : numHalf (num a b) = [a, b] := by
  simp only [numHalf, num, halfOctets, BitVec.ofNat_toNat, BitVec.setWidth_eq, half_high, half_low]

theorem num_lt (a b : Octet) : num a b < 65536 := (half a b).isLt

theorem countOctets_countOf (a b : Octet) : countOctets (countOf a b) = [a, b] := by
  rw [countOctets, countOf, Nat.add_sub_cancel, numHalf_num]

theorem countOf_bounds (a b : Octet) : 1 ≤ countOf a b ∧ countOf a b ≤ 65536 := by
  have := num_lt a b
  simp only [countOf]; omega

theorem wordOctets_word (a b c d : Octet) : wordOctets (word a b c d) = [a, b, c, d] := by
  have field : ∀ k, k < 4 → (word a b c d).extractLsb' (8 * k) 8 = [d, c, b, a][k]?.getD 0 := by
    intro k hk
    apply BitVec.eq_of_getLsbD_eq
    intro i hi
    interval_cases k <;> simp only [word, BitVec.getLsbD_append, BitVec.getLsbD_extractLsb'] <;> interval_cases i <;> simp
  simp only [wordOctets]
  rw [field 3 (by decide), field 2 (by decide), field 1 (by decide), field 0 (by decide)]
  rfl

theorem wordsOctets_cons (w : Word) (ws : List Word) : wordsOctets (w :: ws) = wordOctets w ++ wordsOctets ws := by
  simp [wordsOctets]

/-- Words read from octets spell those octets. -/
theorem wordsOctets_of_wordsOf : ∀ {os : List Octet} {ws : List Word}, wordsOf os = some ws → wordsOctets ws = os
  | [], ws, h => by cases h; rfl
  | [_], _, h => nomatch h
  | [_, _], _, h => nomatch h
  | [_, _, _], _, h => nomatch h
  | a :: b :: c :: d :: rest, ws, h => by
    simp only [wordsOf, Option.map_eq_some_iff] at h
    obtain ⟨ws', hrest, rfl⟩ := h
    rw [wordsOctets_cons, wordOctets_word, wordsOctets_of_wordsOf hrest]
    rfl

theorem octet_of_below {bound : Nat} {o : Octet} {x : Fin bound} (h : below bound o = some x) : octet x.val = o := by
  unfold below at h
  split at h
  · cases h; exact octet_of_toNat o
  · cases h

theorem inRange_ok {α : Type} {o : Option α} {a : α} : inRange o = .ok a ↔ o = some a := by
  cases o <;> simp [inRange]

theorem bind_ok {ε α β : Type} {x : Except ε α} {f : α → Except ε β} {b : β} (h : (x >>= f) = .ok b) :
    ∃ a, x = .ok a ∧ f a = .ok b := by
  cases x with
  | error e => cases h
  | ok a => exact ⟨a, rfl, h⟩

/-! ### Codes -/

theorem RequestKind.ofCode_code (k : RequestKind) : RequestKind.ofCode k.code = some k := by
  cases k with
  | data k => cases k <;> rfl
  | _ => rfl

theorem RequestKind.code_of_ofCode {o : Octet} {k : RequestKind} (h : RequestKind.ofCode o = some k) : k.code = o := by
  have key : ∀ o : Octet, (RequestKind.ofCode o).all (fun k => decide (k.code = o)) = true := by decide
  exact of_decide_eq_true ((Option.all_eq_true ..).mp (key o) k h)

theorem RequestKind.ofCode_eq_none (o : Octet) : RequestKind.ofCode o = none ↔ o ∉ requestCodes := by
  revert o; decide

theorem FindTest.code_of_ofCode {o : Octet} {t : FindTest} (h : FindTest.ofCode o = some t) : t.code = o := by
  have key : ∀ o : Octet, (FindTest.ofCode o).all (fun t => decide (t.code = o)) = true := by decide
  exact of_decide_eq_true ((Option.all_eq_true ..).mp (key o) t h)

theorem FoldFn.code_of_ofCode {o : Octet} {f : FoldFn} (h : FoldFn.ofCode o = some f) : f.code = o := by
  have key : ∀ o : Octet, (FoldFn.ofCode o).all (fun f => decide (f.code = o)) = true := by decide
  exact of_decide_eq_true ((Option.all_eq_true ..).mp (key o) f h)

theorem ApplyFn.code_of_ofCode {o : Octet} {f : ApplyFn} (h : ApplyFn.ofCode o = some f) : f.code = o := by
  have key : ∀ o : Octet, (ApplyFn.ofCode o).all (fun f => decide (f.code = o)) = true := by decide
  exact of_decide_eq_true ((Option.all_eq_true ..).mp (key o) f h)

theorem MapMode.code_of_ofCode {o : Octet} {m : MapMode} (h : MapMode.ofCode o = some m) : m.code = o := by
  have key : ∀ o : Octet, (MapMode.ofCode o).all (fun m => decide (m.code = o)) = true := by decide
  exact of_decide_eq_true ((Option.all_eq_true ..).mp (key o) m h)

theorem WatchMode.code_of_ofCode {o : Octet} {m : WatchMode} (h : WatchMode.ofCode o = some m) : m.code = o := by
  have key : ∀ o : Octet, (WatchMode.ofCode o).all (fun m => decide (m.code = o)) = true := by decide
  exact of_decide_eq_true ((Option.all_eq_true ..).mp (key o) m h)

theorem switchCode_of_switchOf {o : Octet} {b : Bool} (h : switchOf o = some b) : switchCode b = o := by
  have key : ∀ o : Octet, (switchOf o).all (fun b => decide (switchCode b = o)) = true := by decide
  exact of_decide_eq_true ((Option.all_eq_true ..).mp (key o) b h)

theorem Right.code_of_ofCode {o : Octet} {r : Right} (h : Right.ofCode o = some r) : octet r.code = o := by
  have key : ∀ o : Octet, (Right.ofCode o).all (fun r => decide (octet r.code = o)) = true := by decide
  exact of_decide_eq_true ((Option.all_eq_true ..).mp (key o) r h)

theorem FindTest.ofCode_code (t : FindTest) : FindTest.ofCode t.code = some t := by cases t <;> rfl
theorem FoldFn.ofCode_code (f : FoldFn) : FoldFn.ofCode f.code = some f := by cases f <;> rfl
theorem ApplyFn.ofCode_code (f : ApplyFn) : ApplyFn.ofCode f.code = some f := by cases f <;> rfl
theorem MapMode.ofCode_code (m : MapMode) : MapMode.ofCode m.code = some m := by cases m <;> rfl
theorem WatchMode.ofCode_code (m : WatchMode) : WatchMode.ofCode m.code = some m := by cases m <;> rfl
theorem switchOf_switchCode (b : Bool) : switchOf (switchCode b) = some b := by cases b <;> rfl
theorem Right.ofCode_code (r : Right) : Right.ofCode (octet r.code) = some r := by cases r <;> rfl

/-! ### From the frame to the request -/

/-- What a payload that is read as a request of kind `k` says of the request. -/
structure Request.Reads (r : Request) (k : RequestKind) (posted : Bool) (payload : List Octet) : Prop where
  kind : r.kind = k
  payload : r.payload = payload
  sendable : r.sendable = true
  flags : r.flags = if posted then 1 else 0

theorem Ref.octets_num (s o1 o0 : Octet) (c : Nat) : (Ref.mk s (num o1 o0) c).octets = [s, o1, o0] := by
  rw [Ref.octets, numHalf_num]

theorem parseRead_reads {p : List Octet} {r : Request} (h : parseRead p = .ok r) : r.Reads (.data .read) false p := by
  unfold parseRead at h
  split at h
  · rename_i s o1 o0 c
    split at h
    · cases h
    · cases h
      refine ⟨rfl, ?_, ?_, rfl⟩
      · simp only [Request.payload, DataRequest.payload, Ref.octets_num, octet_of_toNat]; rfl
      · have := num_lt o1 o0
        simp [Request.sendable, DataRequest.sendable, Ref.sendable]; omega
  · cases h

theorem parseWrite_reads {posted : Bool} {p : List Octet} {r : Request} (h : parseWrite posted p = .ok r) :
    r.Reads (.data .write) posted p := by
  unfold parseWrite at h
  split at h
  · rename_i s o1 o0 rest
    split at h
    · rename_i ws hws
      split at h
      · cases h
      · cases h
        refine ⟨rfl, ?_, ?_, rfl⟩
        · simp only [Request.payload, DataRequest.payload, Ref.octets_num, wordsOctets_of_wordsOf hws]; rfl
        · have := num_lt o1 o0
          simp [Request.sendable, DataRequest.sendable, Ref.sendable]; omega
    · cases h
  · cases h

theorem parseExchange_reads {p : List Octet} {r : Request} (h : parseExchange p = .ok r) :
    r.Reads (.data .exchange) false p := by
  unfold parseExchange at h
  split at h
  · rename_i s o1 o0 c3 c2 c1 c0 m3 m2 m1 m0 n3 n2 n1 n0
    cases h
    refine ⟨rfl, ?_, ?_, rfl⟩
    · simp only [Request.payload, DataRequest.payload, Ref.octets_num, wordsOctets_cons, wordOctets_word]; rfl
    · simp [Request.sendable, DataRequest.sendable, Ref.sendable, num_lt]
  · cases h

theorem parseCopy_reads {p : List Octet} {r : Request} (h : parseCopy p = .ok r) : r.Reads (.data .copy) false p := by
  unfold parseCopy at h
  split at h
  · rename_i s o1 o0 c1 c0 d d1 d0
    cases h
    refine ⟨rfl, ?_, ?_, rfl⟩
    · simp only [Request.payload, DataRequest.payload, Ref.octets_num, countOctets_countOf]; rfl
    · simp [Request.sendable, DataRequest.sendable, Ref.sendable, num_lt, countOf_bounds]
  · cases h

theorem parseFind_reads {p : List Octet} {r : Request} (h : parseFind p = .ok r) : r.Reads (.data .find) false p := by
  unfold parseFind at h
  split at h
  · rename_i s o1 o0 c1 c0 t v3 v2 v1 v0 m3 m2 m1 m0
    obtain ⟨test, ht, hr⟩ := bind_ok h
    cases hr
    rw [inRange_ok] at ht
    refine ⟨rfl, ?_, ?_, rfl⟩
    · simp only [Request.payload, DataRequest.payload, Ref.octets_num, countOctets_countOf, FindTest.code_of_ofCode ht,
        wordsOctets_cons, wordOctets_word]; rfl
    · simp [Request.sendable, DataRequest.sendable, Ref.sendable, num_lt, countOf_bounds]
  · cases h

theorem parseFold_reads {p : List Octet} {r : Request} (h : parseFold p = .ok r) : r.Reads (.data .fold) false p := by
  unfold parseFold at h
  split at h
  · obtain ⟨fn, hf, hr⟩ := bind_ok h
    cases hr
    rw [inRange_ok] at hf
    refine ⟨rfl, ?_, ?_, rfl⟩
    · simp only [Request.payload, DataRequest.payload, Ref.octets_num, countOctets_countOf, FoldFn.code_of_ofCode hf,
        wordOctets_word]; rfl
    · simp [Request.sendable, DataRequest.sendable, Ref.sendable, num_lt, countOf_bounds]
  · cases h

theorem parseApply_reads {p : List Octet} {r : Request} (h : parseApply p = .ok r) : r.Reads (.data .apply) false p := by
  unfold parseApply at h
  split at h
  · obtain ⟨fn, hf, hr⟩ := bind_ok h
    cases hr
    rw [inRange_ok] at hf
    refine ⟨rfl, ?_, ?_, rfl⟩
    · simp only [Request.payload, DataRequest.payload, Ref.octets_num, countOctets_countOf, ApplyFn.code_of_ofCode hf,
        wordOctets_word]; rfl
    · simp [Request.sendable, DataRequest.sendable, Ref.sendable, num_lt, countOf_bounds]
  · cases h

theorem parseMap_reads {p : List Octet} {r : Request} (h : parseMap p = .ok r) : r.Reads (.data .map) false p := by
  unfold parseMap at h
  split at h
  · obtain ⟨mode, hm, hr⟩ := bind_ok h
    cases hr
    rw [inRange_ok] at hm
    refine ⟨rfl, ?_, ?_, rfl⟩
    · simp only [Request.payload, DataRequest.payload, Ref.octets_num, countOctets_countOf, MapMode.code_of_ofCode hm]; rfl
    · simp [Request.sendable, DataRequest.sendable, Ref.sendable, num_lt, countOf_bounds]
  · cases h

theorem parseEmpty_reads {r q : Request} {p : List Octet} (hp : q.payload = []) (hs : q.sendable = true) (hf : q.flags = 0)
    (h : parseEmpty q p = .ok r) : r.Reads q.kind false p := by
  unfold parseEmpty at h
  split at h
  · cases h
    exact ⟨rfl, hp, hs, hf⟩
  · cases h

theorem parseWatch_reads {p : List Octet} {r : Request} (h : parseWatch p = .ok r) : r.Reads .watch false p := by
  unfold parseWatch at h
  split at h
  · obtain ⟨seg, hseg, h⟩ := bind_ok h
    obtain ⟨mode, hm, h⟩ := bind_ok h
    obtain ⟨self, hself, hr⟩ := bind_ok h
    cases hr
    rw [inRange_ok] at hseg hm hself
    refine ⟨rfl, ?_, ?_, rfl⟩
    · simp only [Request.payload, octet_of_below hseg, numHalf_num, countOctets_countOf, WatchMode.code_of_ofCode hm,
        switchCode_of_switchOf hself]; rfl
    · simp [Request.sendable, num_lt, countOf_bounds]
  · cases h

theorem parseRearm_reads {p : List Octet} {r : Request} (h : parseRearm p = .ok r) : r.Reads .rearm false p := by
  unfold parseRearm at h
  split at h
  · obtain ⟨id, hid, hr⟩ := bind_ok h
    cases hr
    rw [inRange_ok] at hid
    exact ⟨rfl, by rw [Request.payload, octet_of_below hid], rfl, rfl⟩
  · cases h

theorem parseUnwatch_reads {p : List Octet} {r : Request} (h : parseUnwatch p = .ok r) : r.Reads .unwatch false p := by
  unfold parseUnwatch at h
  split at h
  · obtain ⟨id, hid, hr⟩ := bind_ok h
    cases hr
    rw [inRange_ok] at hid
    exact ⟨rfl, by rw [Request.payload, octet_of_below hid], rfl, rfl⟩
  · cases h

theorem parseDefine_reads {p : List Octet} {r : Request} (h : parseDefine p = .ok r) : r.Reads .define false p := by
  unfold parseDefine at h
  split at h
  · obtain ⟨seg, hseg, h⟩ := bind_ok h
    obtain ⟨a, ha, h⟩ := bind_ok h
    obtain ⟨b, hb, h⟩ := bind_ok h
    obtain ⟨c, hc, h⟩ := bind_ok h
    obtain ⟨d, hd, hr⟩ := bind_ok h
    cases hr
    rw [inRange_ok] at hseg ha hb hc hd
    refine ⟨rfl, ?_, ?_, rfl⟩
    · simp [Request.payload, octet_of_below hseg, numHalf_num, countOctets_countOf, Right.code_of_ofCode ha,
        Right.code_of_ofCode hb, Right.code_of_ofCode hc, Right.code_of_ofCode hd]
    · simp [Request.sendable, num_lt, countOf_bounds]
  · cases h

theorem parseDrop_reads {p : List Octet} {r : Request} (h : parseDrop p = .ok r) : r.Reads .drop false p := by
  unfold parseDrop at h
  split at h
  · obtain ⟨seg, hseg, hr⟩ := bind_ok h
    cases hr
    rw [inRange_ok] at hseg
    exact ⟨rfl, by rw [Request.payload, octet_of_below hseg], rfl, rfl⟩
  · cases h

/-- A parameter read from its code and value spells them. -/
theorem Parameter.octets_of_parameterOf {c a b : Octet} {p : Parameter} (h : parameterOf c (half a b) = some p) :
    p.octets = [c, a, b] := by
  have value (v : Half) (hv : half a b = v) : a = v.extractLsb' 8 8 ∧ b = v.extractLsb' 0 8 := by
    rw [← hv, half_high, half_low]
    exact ⟨rfl, rfl⟩
  unfold parameterOf at h
  split_ifs at h with h0 h1 h2 hv hv' h3 hv h4 hv hv' <;> cases h
  · rw [Parameter.octets, halfOctets, half_high, half_low, h0]
  · rw [Parameter.octets, halfOctets, half_high, half_low, h1]
  · obtain ⟨rfl, rfl⟩ := value _ hv
    rw [h2]; rfl
  · obtain ⟨rfl, rfl⟩ := value _ hv'
    rw [h2]; rfl
  · have hval : (half a b).toNat = 256 * a.toNat + b.toNat := by
      simp only [half, BitVec.toNat_append, Nat.shiftLeft_eq]
      rw [Nat.mul_comm, ← Nat.two_pow_add_eq_or_of_lt b.isLt]
    have ha : a = 0 := BitVec.eq_of_toNat_eq (by simp; omega)
    have hb : (half a b).toNat = b.toNat := by rw [hval, ha]; simp
    simp only [Parameter.octets, h3]
    rw [hb, octet_of_toNat, ha]
  · obtain ⟨rfl, rfl⟩ := value _ hv
    rw [h4]; rfl
  · obtain ⟨rfl, rfl⟩ := value _ hv'
    rw [h4]; rfl

theorem parseLinkset_reads {p : List Octet} {r : Request} (h : parseLinkset p = .ok r) : r.Reads .linkset false p := by
  unfold parseLinkset at h
  split at h
  · obtain ⟨target, ht, h⟩ := bind_ok h
    obtain ⟨x, hx, h⟩ := bind_ok h
    rw [inRange_ok] at ht hx
    split at h
    · cases h
    · rename_i hallowed
      cases h
      refine ⟨rfl, ?_, ?_, rfl⟩
      · rw [Request.payload, octet_of_below ht, Parameter.octets_of_parameterOf hx]
      · simp only [Request.sendable, Bool.not_eq_true', Bool.and_eq_false_iff, decide_eq_false_iff_not]
        tauto
  · cases h

theorem parseQuery_reads {p : List Octet} {r : Request} (h : parseQuery p = .ok r) : r.Reads .query false p := by
  unfold parseQuery at h
  split at h
  · split_ifs at h with h0 ha h1 h2 ha h3 h4 ha
    · cases h; rw [h0, ha]; exact ⟨rfl, rfl, rfl, rfl⟩
    · obtain ⟨n, hn, hr⟩ := bind_ok h
      cases hr
      rw [inRange_ok] at hn
      exact ⟨rfl, by rw [Request.payload, Selector.octets, octet_of_below hn, h1], rfl, rfl⟩
    · cases h; rw [h2, ha]; exact ⟨rfl, rfl, rfl, rfl⟩
    · obtain ⟨seg, hseg, hr⟩ := bind_ok h
      cases hr
      rw [inRange_ok] at hseg
      exact ⟨rfl, by rw [Request.payload, Selector.octets, octet_of_below hseg, h3], rfl, rfl⟩
    · cases h; rw [h4, ha]; exact ⟨rfl, rfl, rfl, rfl⟩
  · cases h

theorem parseLinkreset_reads {p : List Octet} {r : Request} (h : parseLinkreset p = .ok r) : r.Reads .linkreset false p := by
  unfold parseLinkreset at h
  split at h
  · obtain ⟨t, ht, hr⟩ := bind_ok h
    cases hr
    rw [inRange_ok] at ht
    exact ⟨rfl, by rw [Request.payload, octet_of_below ht], rfl, rfl⟩
  · cases h

theorem parsePayload_reads {flags : Octet} {p : List Octet} {k : RequestKind} {r : Request}
    (h : parsePayload flags p k = .ok r) : r.Reads k (decide (k = .data .write) && flags.getLsbD 0) p := by
  cases k with
  | data k =>
    cases k with
    | read => exact parseRead_reads h
    | write => exact parseWrite_reads h
    | exchange => exact parseExchange_reads h
    | copy => exact parseCopy_reads h
    | find => exact parseFind_reads h
    | fold => exact parseFold_reads h
    | apply => exact parseApply_reads h
    | map => exact parseMap_reads h
  | claim => exact parseEmpty_reads rfl rfl rfl h
  | cancel => exact parseEmpty_reads rfl rfl rfl h
  | watch => exact parseWatch_reads h
  | rearm => exact parseRearm_reads h
  | unwatch => exact parseUnwatch_reads h
  | define => exact parseDefine_reads h
  | drop => exact parseDrop_reads h
  | linkset => exact parseLinkset_reads h
  | query => exact parseQuery_reads h
  | linkreset => exact parseLinkreset_reads h
  | restart => exact parseEmpty_reads rfl rfl rfl h

theorem flags_of_flagsFit {k : RequestKind} {flags : Octet} (h : flagsFit k flags = true) :
    (if (decide (k = .data .write) && flags.getLsbD 0) = true then (1 : Octet) else 0) = flags := by
  unfold flagsFit at h
  split at h
  · simp only [Bool.or_eq_true, decide_eq_true_eq] at h
    rcases h with rfl | rfl <;> rfl
  · rename_i hk
    rw [decide_eq_true_eq] at h
    rw [h]
    simp

/-- A frame that is decoded is the frame of the request read. -/
theorem frame_of_parseFrame {f : Frame} {r : Request} (h : parseFrame f = .ok r) :
    r.sendable = true ∧ r.frame f.tag = f := by
  unfold parseFrame at h
  split at h
  · cases h
  · rename_i k hk
    split at h
    · cases h
    · rename_i hlength
      split at h
      · cases h
      · rename_i r' hr
        split at h
        · rename_i hflags
          cases h
          obtain ⟨hkind, hpayload, hsendable, hr⟩ := parsePayload_reads hr
          refine ⟨hsendable, ?_⟩
          have hlen : BitVec.ofNat 16 f.payload.length = f.length := by
            rw [← not_not.mp hlength, BitVec.ofNat_toNat, BitVec.setWidth_eq]
          rw [Request.frame, hkind, hpayload, hr, flags_of_flagsFit hflags, RequestKind.code_of_ofCode hk, hlen]
        · cases h

end Sys2Proof.Machine
end

section
/-! PROOFS. From the request to its frame and back, and the layouts of the frames (R170 to R175). -/

namespace Sys2Proof.Machine

theorem numHalf_eq (n : Nat) : numHalf n = [(BitVec.ofNat 16 n).extractLsb' 8 8, (BitVec.ofNat 16 n).extractLsb' 0 8] := rfl

theorem Ref.octets_eq (a : Ref) :
    a.octets = [a.segment, (BitVec.ofNat 16 a.offset).extractLsb' 8 8, (BitVec.ofNat 16 a.offset).extractLsb' 0 8] := rfl

theorem countOctets_eq (c : Nat) :
    countOctets c = [(BitVec.ofNat 16 (c - 1)).extractLsb' 8 8, (BitVec.ofNat 16 (c - 1)).extractLsb' 0 8] := rfl

theorem wordOctets_eq (w : Word) :
    wordOctets w = [w.extractLsb' 24 8, w.extractLsb' 16 8, w.extractLsb' 8 8, w.extractLsb' 0 8] := rfl

theorem wordsOctets_nil : wordsOctets [] = [] := rfl

theorem Ref.sendable_iff {a : Ref} {low high : Nat} :
    a.sendable low high = true ↔ a.offset < 65536 ∧ low ≤ a.count ∧ a.count ≤ high := by
  simp [Ref.sendable, and_assoc]

theorem Ref.mk_num {a : Ref} (h : a.offset < 65536) {c : Nat} (hc : c = a.count) :
    (⟨a.segment, num ((BitVec.ofNat 16 a.offset).extractLsb' 8 8) ((BitVec.ofNat 16 a.offset).extractLsb' 0 8), c⟩ : Ref) = a := by
  rw [num_octets h, hc]

theorem inRange_some {α : Type} (a : α) : inRange (some a) = .ok a := rfl

theorem ok_bind {α β : Type} (a : α) (f : α → Except Status β) : ((Except.ok a : Except Status α) >>= f) = f a := rfl

/-- A sendable data request is read from its own payload. -/
theorem parsePayload_dataPayload {r : DataRequest} (h : r.sendable = true) :
    parsePayload (Request.data r).flags r.payload (.data r.job.kind) = .ok (.data r) := by
  obtain ⟨job, posted, data⟩ := r
  cases job with
  | read a =>
    simp only [DataRequest.sendable, Bool.and_eq_true, Bool.not_eq_true', List.isEmpty_iff, Ref.sendable_iff] at h
    obtain ⟨⟨⟨hoff, hlow, hhigh⟩, rfl⟩, rfl⟩ := h
    have hcount : (octet a.count).toNat = a.count := octet_toNat (by omega)
    simp only [Job.kind, parsePayload, DataRequest.payload, Ref.octets_eq, List.cons_append, List.nil_append, parseRead, hcount,
      num_octets hoff]
    rw [if_neg (by omega)]
  | write a =>
    simp only [DataRequest.sendable, Bool.and_eq_true, decide_eq_true_eq, Ref.sendable_iff] at h
    obtain ⟨⟨hoff, hlow, hhigh⟩, hlen⟩ := h
    have hflag : (Request.data ⟨.write a, posted, data⟩).flags.getLsbD 0 = posted := by
      cases posted <;> simp [Request.flags]
    simp only [Job.kind, parsePayload, DataRequest.payload, Ref.octets_eq, List.cons_append, List.nil_append, parseWrite,
      wordsOf_octets, hflag, num_octets hoff]
    rw [if_neg (by omega), ← hlen]
  | exchange a c m n =>
    simp only [DataRequest.sendable, Bool.and_eq_true, Bool.not_eq_true', List.isEmpty_iff, Ref.sendable_iff] at h
    obtain ⟨⟨⟨hoff, hlow, hhigh⟩, rfl⟩, rfl⟩ := h
    have hcount : a.count = 1 := by omega
    simp only [Job.kind, parsePayload, DataRequest.payload, Ref.octets_eq, wordsOctets_cons, wordsOctets_nil, wordOctets_eq,
      List.cons_append, List.nil_append, parseExchange, num_octets hoff, word_octets]
    rw [← hcount]
  | copy a b =>
    simp only [DataRequest.sendable, Bool.and_eq_true, Bool.not_eq_true', List.isEmpty_iff, Ref.sendable_iff,
      decide_eq_true_eq] at h
    obtain ⟨⟨⟨⟨⟨hoff, hlow, hhigh⟩, hoff', -, -⟩, hcount⟩, rfl⟩, rfl⟩ := h
    simp only [Job.kind, parsePayload, DataRequest.payload, Ref.octets_eq, countOctets_eq, List.cons_append, List.nil_append,
      parseCopy, num_octets hoff, num_octets hoff', countOf_octets hlow hhigh]
    obtain ⟨bs, bo, bc⟩ := b
    obtain rfl : a.count = bc := hcount
    rfl
  | find a t v m =>
    simp only [DataRequest.sendable, Bool.and_eq_true, Bool.not_eq_true', List.isEmpty_iff, Ref.sendable_iff] at h
    obtain ⟨⟨⟨hoff, hlow, hhigh⟩, rfl⟩, rfl⟩ := h
    simp only [Job.kind, parsePayload, DataRequest.payload, Ref.octets_eq, countOctets_eq, wordsOctets_cons, wordsOctets_nil,
      wordOctets_eq, List.cons_append, List.nil_append, parseFind, FindTest.ofCode_code, inRange_some, ok_bind, num_octets hoff,
      countOf_octets hlow hhigh, word_octets]
  | fold a f i =>
    simp only [DataRequest.sendable, Bool.and_eq_true, Bool.not_eq_true', List.isEmpty_iff, Ref.sendable_iff] at h
    obtain ⟨⟨⟨hoff, hlow, hhigh⟩, rfl⟩, rfl⟩ := h
    simp only [Job.kind, parsePayload, DataRequest.payload, Ref.octets_eq, countOctets_eq,
      wordOctets_eq, List.cons_append, List.nil_append, parseFold, FoldFn.ofCode_code, inRange_some, ok_bind, num_octets hoff,
      countOf_octets hlow hhigh, word_octets]
  | apply a f x =>
    simp only [DataRequest.sendable, Bool.and_eq_true, Bool.not_eq_true', List.isEmpty_iff, Ref.sendable_iff] at h
    obtain ⟨⟨⟨hoff, hlow, hhigh⟩, rfl⟩, rfl⟩ := h
    simp only [Job.kind, parsePayload, DataRequest.payload, Ref.octets_eq, countOctets_eq,
      wordOctets_eq, List.cons_append, List.nil_append, parseApply, ApplyFn.ofCode_code, inRange_some, ok_bind, num_octets hoff,
      countOf_octets hlow hhigh, word_octets]
  | map a t m =>
    simp only [DataRequest.sendable, Bool.and_eq_true, Bool.not_eq_true', List.isEmpty_iff, Ref.sendable_iff] at h
    obtain ⟨⟨⟨⟨hoff, hlow, hhigh⟩, hoff', hlow', hhigh'⟩, rfl⟩, rfl⟩ := h
    have hcount : t.count = 256 := by omega
    simp only [Job.kind, parsePayload, DataRequest.payload, Ref.octets_eq, countOctets_eq, List.cons_append, List.nil_append,
      parseMap, MapMode.ofCode_code, inRange_some, ok_bind, num_octets hoff, num_octets hoff', countOf_octets hlow hhigh]
    rw [← hcount]

theorem Parameter.parameterOf_octets {p : Parameter} : ∃ c a b, p.octets = [c, a, b] ∧ parameterOf c (half a b) = some p := by
  cases p with
  | budget v => exact ⟨_, _, _, rfl, by rw [half_octets]; rfl⟩
  | hold v => exact ⟨_, _, _, rfl, by rw [half_octets]; rfl⟩
  | notify on => exact ⟨_, _, _, rfl, by cases on <;> rfl⟩
  | priority v => exact ⟨_, _, _, rfl, by revert v; decide⟩
  | admin yes => exact ⟨_, _, _, rfl, by cases yes <;> rfl⟩

theorem parseLinkset_payload {target : LinkId} {p : Parameter} (h : (Request.linkset target p).sendable = true) :
    parseLinkset (Request.linkset target p).payload = .ok (.linkset target p) := by
  obtain ⟨c, a, b, hp, hof⟩ := Parameter.parameterOf_octets (p := p)
  simp only [Request.sendable, Bool.not_eq_true', Bool.and_eq_false_iff, decide_eq_false_iff_not] at h
  simp only [Request.payload, hp, parseLinkset, below_octet target (by omega), inRange_some, ok_bind, hof]
  rw [if_neg (by tauto)]

theorem parseQuery_payload (q : Selector) : parseQuery q.octets = .ok (.query q) := by
  cases q with
  | link n => simp [Selector.octets, parseQuery, below_octet n (by omega), inRange_some, ok_bind]
  | segment id => simp [Selector.octets, parseQuery, below_octet id (by omega), inRange_some, ok_bind]
  | _ => rfl

/-- A sendable request is read from its own payload. -/
theorem parsePayload_payload {r : Request} (h : r.sendable = true) : parsePayload r.flags r.payload r.kind = .ok r := by
  cases r with
  | data r => exact parsePayload_dataPayload h
  | watch seg off c m w =>
    simp only [Request.sendable, Bool.and_eq_true, decide_eq_true_eq] at h
    obtain ⟨⟨hoff, hlow⟩, hhigh⟩ := h
    simp only [Request.kind, parsePayload, Request.payload, numHalf_eq, countOctets_eq, List.cons_append, List.nil_append, parseWatch,
      below_octet seg (by omega), WatchMode.ofCode_code, switchOf_switchCode, inRange_some, ok_bind, num_octets hoff,
      countOf_octets hlow hhigh]
  | rearm id => simp only [Request.kind, parsePayload, Request.payload, parseRearm, below_octet id (by omega), inRange_some, ok_bind]
  | unwatch id =>
    simp only [Request.kind, parsePayload, Request.payload, parseUnwatch, below_octet id (by omega), inRange_some, ok_bind]
  | define seg base len rights =>
    simp only [Request.sendable, Bool.and_eq_true, decide_eq_true_eq] at h
    obtain ⟨⟨hbase, hlow⟩, hhigh⟩ := h
    obtain ⟨⟨rights⟩, hrights⟩ := rights
    match rights, hrights with
    | [a, b, c, d], _ =>
      simp only [Request.kind, parsePayload, Request.payload, numHalf_eq, countOctets_eq, Vector.toList_mk, List.map_cons,
        List.map_nil, List.cons_append, List.nil_append, parseDefine, below_octet seg (by omega), Right.ofCode_code, inRange_some,
        ok_bind, num_octets hbase, countOf_octets hlow hhigh]
  | drop seg => simp only [Request.kind, parsePayload, Request.payload, parseDrop, below_octet seg (by omega), inRange_some, ok_bind]
  | linkset t p => exact parseLinkset_payload h
  | query q => exact parseQuery_payload q
  | linkreset t =>
    simp only [Request.kind, parsePayload, Request.payload, parseLinkreset, below_octet t (by omega), inRange_some, ok_bind]
  | claim => rfl
  | cancel => rfl
  | restart => rfl

theorem DataRequest.payload_length_le {r : DataRequest} (h : r.sendable = true) : r.payload.length ≤ 260 := by
  obtain ⟨job, posted, data⟩ := r
  cases job with
  | write a =>
    simp only [DataRequest.sendable, Bool.and_eq_true, decide_eq_true_eq, Ref.sendable_iff] at h
    simp only [DataRequest.payload, Ref.octets_eq, List.length_append, List.length_cons, List.length_nil, wordsOctets_length]
    omega
  | _ => simp [DataRequest.payload, Ref.octets_eq, countOctets_eq, wordsOctets_length, wordOctets_eq]

theorem Request.payload_length_le {r : Request} (h : r.sendable = true) : r.payload.length ≤ 260 := by
  cases r with
  | data r => exact DataRequest.payload_length_le h
  | linkset t p =>
    obtain ⟨c, a, b, hp, -⟩ := Parameter.parameterOf_octets (p := p)
    simp [Request.payload, hp]
  | query q => cases q <;> simp [Request.payload, Selector.octets]
  | _ => simp [Request.payload, numHalf_eq, countOctets_eq]

theorem Request.flagsFit_kind {r : Request} (h : r.sendable = true) : flagsFit r.kind r.flags = true := by
  cases r with
  | data r =>
    obtain ⟨job, posted, data⟩ := r
    cases job with
    | write a => cases posted <;> rfl
    | _ =>
      simp only [Request.sendable, DataRequest.sendable, Bool.and_eq_true, Bool.not_eq_true'] at h
      obtain ⟨⟨-, rfl⟩, -⟩ := h
      rfl
  | _ => rfl

/-- Every request that can be sent is decoded from its frame. -/
theorem parseFrame_frame {r : Request} (tag : Tag) (h : r.sendable = true) : parseFrame (r.frame tag) = .ok r := by
  have hlen := Request.payload_length_le h
  unfold parseFrame
  simp only [Request.frame, RequestKind.ofCode_code, BitVec.toNat_ofNat, parsePayload_payload h, Request.flagsFit_kind h]
  rw [if_neg (by omega)]
  rfl

/-! ### The layouts -/

theorem Request.frame_eq {r : Request} {tag : Tag} {kind flags : Octet} {length : Half} {payload : List Octet}
    (hkind : r.kind.code = kind) (hflags : r.flags = flags) (hpayload : r.payload = payload)
    (hlength : BitVec.ofNat 16 payload.length = length) :
    r.frame tag = { kind := kind, flags := flags, tag := tag, length := length, payload := payload } := by
  subst hkind hflags hpayload hlength
  rfl


/-- The two octets of a number, as its quotient and remainder give them. -/
theorem halfOctets_ofNat (k : Nat) : halfOctets (BitVec.ofNat 16 k) = [BitVec.ofNat 8 (k / 256), BitVec.ofNat 8 k] := by
  have high : (BitVec.ofNat 16 k).extractLsb' 8 8 = BitVec.ofNat 8 (k / 256) := by
    apply BitVec.eq_of_toNat_eq
    simp only [BitVec.extractLsb'_toNat, BitVec.toNat_ofNat, Nat.shiftRight_eq_div_pow]
    omega
  have low : (BitVec.ofNat 16 k).extractLsb' 0 8 = BitVec.ofNat 8 k := by
    apply BitVec.eq_of_toNat_eq
    simp only [BitVec.extractLsb'_toNat, BitVec.toNat_ofNat, Nat.shiftRight_eq_div_pow]
    omega
  rw [halfOctets, high, low]

theorem numHalf_two (k : Nat) : numHalf k = [BitVec.ofNat 8 (k / 256), BitVec.ofNat 8 k] := halfOctets_ofNat k

end Sys2Proof.Machine

namespace Sys2Proof.Proofs

open Sys2Proof Sys2Proof.Machine

/-- Settles O6: both directions of the decoding are `parseFrame_frame` and `frame_of_parseFrame`; a layout is the frame written
out, with a two-octet number as quotient and remainder. -/
theorem requestFrameDecodes : Obligations.RequestFrameDecodes := by
  unfold Obligations.RequestFrameDecodes
  refine ⟨fun r tag h => ⟨parseFrame_frame tag h, rfl, Request.payload_length_le h⟩, fun f r h => frame_of_parseFrame h, ?_⟩
  intro tag two four operand range framed data
  have hoperand (a : Ref) : a.octets = operand a := by rw [Ref.octets, numHalf_two]
  have hcount (c : Nat) : countOctets c = two (c - 1) := by rw [countOctets, numHalf_two]
  have hrange (a : Ref) : a.octets ++ countOctets a.count = range a := by rw [hoperand, hcount]
  have hfind {a t v m} {c : Octet} (h : t.code = c) :
      framed (data (.find a t v m)) 0x21 0 14 (range a ++ [c] ++ four v ++ four m) := by
    refine Request.frame_eq rfl rfl ?_ rfl
    simp only [data, Request.payload, DataRequest.payload, hrange, h, wordsOctets_cons, wordsOctets_nil, List.append_assoc]
    rfl
  have hfold {a f i} {c : Octet} (h : FoldFn.code f = c) : framed (data (.fold a f i)) 0x22 0 10 (range a ++ [c] ++ four i) := by
    refine Request.frame_eq rfl rfl ?_ rfl
    simp only [data, Request.payload, DataRequest.payload, hrange, h]
    rfl
  have happly {a f x} {c : Octet} (h : ApplyFn.code f = c) : framed (data (.apply a f x)) 0x23 0 10 (range a ++ [c] ++ four x) := by
    refine Request.frame_eq rfl rfl ?_ rfl
    simp only [data, Request.payload, DataRequest.payload, hrange, h]
    rfl
  have hmap {a b m} {c : Octet} (h : MapMode.code m = c) : framed (data (.map a b m)) 0x24 0 9 (range a ++ operand b ++ [c]) := by
    refine Request.frame_eq rfl rfl ?_ rfl
    simp only [data, Request.payload, DataRequest.payload, hoperand, hcount, h, range]
  have hwatch {seg offset count m w} {c d : Octet} (hm : WatchMode.code m = c) (hw : switchCode w = d) :
      framed (.watch seg offset count m w) 0x40 0 7
        ([BitVec.ofNat 8 seg.val] ++ two offset ++ two (count - 1) ++ [c, d]) := by
    refine Request.frame_eq rfl rfl ?_ rfl
    simp only [Request.payload, numHalf_two, hcount, hm, hw]
    rfl
  refine ⟨fun a => ?_, fun a posted ws => ?_, fun a c m n => ?_, fun a b => ?_, ?_, ?_, ?_, ?_, rfl, rfl, ?_, fun id => ⟨rfl, rfl⟩,
    fun seg base length rights => ?_, fun seg => rfl, fun t => ⟨fun v => ⟨rfl, rfl⟩, fun v => rfl, ?_⟩,
    ⟨rfl, fun n => rfl, rfl, fun seg => rfl, rfl⟩, fun t => rfl, rfl⟩
  · refine Request.frame_eq rfl rfl ?_ rfl
    simp only [data, Request.payload, DataRequest.payload, hoperand]
    rfl
  · have hp : (Request.data ⟨.write a, posted, ws⟩).payload = operand a ++ ws.flatMap four := by
      simp only [Request.payload, DataRequest.payload, hoperand]; rfl
    have hlen : (operand a ++ ws.flatMap four).length = 3 + 4 * ws.length := by
      rw [List.length_append, show (ws.flatMap four).length = 4 * ws.length from wordsOctets_length ws]; rfl
    exact Request.frame_eq rfl rfl hp (by rw [hlen])
  · refine Request.frame_eq rfl rfl ?_ rfl
    simp only [data, Request.payload, DataRequest.payload, hoperand, wordsOctets_cons, wordsOctets_nil, List.append_assoc]
    rfl
  · refine Request.frame_eq rfl rfl ?_ rfl
    simp only [data, Request.payload, DataRequest.payload, hoperand, hcount, range]
  · simp only [List.forall_mem_cons]
    exact ⟨fun _ _ _ => hfind rfl, fun _ _ _ => hfind rfl, fun _ _ _ => hfind rfl, fun _ _ _ => hfind rfl,
      fun _ _ _ => hfind rfl, fun _ _ _ => hfind rfl, List.forall_mem_nil _⟩
  · simp only [List.forall_mem_cons]
    exact ⟨fun _ _ => hfold rfl, fun _ _ => hfold rfl, fun _ _ => hfold rfl, fun _ _ => hfold rfl, List.forall_mem_nil _⟩
  · simp only [List.forall_mem_cons]
    exact ⟨fun _ _ => happly rfl, fun _ _ => happly rfl, fun _ _ => happly rfl, fun _ _ => happly rfl, fun _ _ => happly rfl,
      List.forall_mem_nil _⟩
  · simp only [List.forall_mem_cons]
    exact ⟨fun _ _ => hmap rfl, fun _ _ => hmap rfl, List.forall_mem_nil _⟩
  · simp only [List.forall_mem_cons]
    exact ⟨⟨fun _ _ _ => hwatch rfl rfl, fun _ _ _ => hwatch rfl rfl, List.forall_mem_nil _⟩,
      ⟨fun _ _ _ => hwatch rfl rfl, fun _ _ _ => hwatch rfl rfl, List.forall_mem_nil _⟩, List.forall_mem_nil _⟩
  · intro code
    have hcode (r : Right) : octet r.code = code r := by cases r <;> rfl
    have hp : (Request.define seg base length rights).payload = [BitVec.ofNat 8 seg.val] ++ two base ++ two (length - 1) ++
        [code rights[0], code rights[1], code rights[2], code rights[3]] := by
      obtain ⟨⟨rights⟩, hrights⟩ := rights
      match rights, hrights with
      | [a, b, c, d], _ =>
        simp only [Request.payload, numHalf_two, hcount, Vector.toList_mk, List.map_cons, List.map_nil, hcode]
        rfl
    exact Request.frame_eq rfl rfl hp rfl
  · simp only [List.forall_mem_cons]
    exact ⟨⟨rfl, rfl⟩, ⟨rfl, rfl⟩, List.forall_mem_nil _⟩

end Sys2Proof.Proofs
end

section
/-! PROOFS. The records stay in agreement when resets complete (R185, R186, R188). -/

namespace Sys2Proof.Machine

variable {s : State}

/-- A link after the completion of a LINKRESET of link t asked for by link n (R185, R186). -/
theorem State.link_completeLinkreset (t n : LinkId) (tag : Tag) (m : LinkId) :
    (s.completeLinkreset t n tag).link m =
      if m = t then
        (if n = t then (s.link t).reopen.placeReply (.answer .ok tag []) else (s.link t).reopen).queueNotice
          (.restarted .linkreset n)
      else if m = n ∧ (s.link n).status = .awaiting t then
        { (s.link n).placeReply (.answer .ok tag []) with status := .opened }
      else s.link m := by
  unfold State.completeLinkreset State.answerLinkreset
  rw [State.link_queueNotice]
  by_cases hn : n = t
  · subst hn
    rw [if_pos rfl, State.link_placeReply, State.link_updLink]
    by_cases hm : n = m
    · subst hm
      simp
    · rw [if_neg hm, if_neg hm, if_neg hm, if_neg (Ne.symm hm), if_neg fun h => hm h.1.symm]
  · rw [if_neg hn, State.link_updLink_ne _ (Ne.symm hn)]
    by_cases hawait : (s.link n).status = .awaiting t
    · rw [if_pos hawait]
      by_cases hm : t = m
      · subst hm
        rw [if_pos rfl, if_pos rfl, State.link_updLink_ne _ hn, State.link_updLink_self, if_neg hn]
      · rw [if_neg hm, if_neg (Ne.symm hm), State.link_updLink]
        by_cases hnm : n = m
        · subst hnm
          rw [if_pos rfl, if_pos ⟨rfl, hawait⟩, State.link_updLink_ne _ hm]
        · rw [if_neg hnm, State.link_updLink_ne _ hm, if_neg fun h => hnm h.1.symm]
    · rw [if_neg hawait]
      by_cases hm : t = m
      · subst hm
        rw [if_pos rfl, if_pos rfl, State.link_updLink_self, if_neg hn]
      · rw [if_neg hm, if_neg (Ne.symm hm), State.link_updLink_ne _ hm, if_neg fun h => hawait h.2]

/-- A link that opens with its slots FREE, or with a place to spare, has room for one reply more. -/
theorem Link.listFits_opened {l : Link} (hstatus : l.status = .opened) (hplaces : l.placesTaken ≤ 12) : l.ListFits where
  all := hplaces
  awaiting := fun t ht => by rw [hstatus] at ht; cases ht
  resetting := fun hr => by
    obtain ⟨c, hc⟩ := Link.isResetting_iff.mp hr
    rw [hstatus] at hc; cases hc

theorem State.Records.completeLinkreset (h : s.Records) {t n : LinkId} {tag : Tag}
    (ht : (s.link t).status = .resetting (.linkreset n tag)) : (s.completeLinkreset t n tag).Records := by
  have hreset : (s.link t).isResetting = true := Link.isResetting_iff.mpr ⟨_, ht⟩
  have hnoRestart : ∀ a r, (s.link a).status ≠ .resetting (.restart r) := fun a r ha => by
    have := h.restart a t r ha
    rw [ht] at this; cases this
  have hres := State.reservedPlaces_congr (t := s.completeLinkreset t n tag) (s := s) fun i => State.slot_completeLinkreset t n tag i
  have hlink := State.link_completeLinkreset (s := s) t n tag
  have hstatus : ∀ m, ((s.completeLinkreset t n tag).link m).status = .opened ∨
      (s.completeLinkreset t n tag).link m = s.link m := fun m => by
    rw [hlink]
    split_ifs <;> simp [Link.reopen, Link.placeReply]
  have hreplies : ∀ m, ((s.completeLinkreset t n tag).link m).replies.length ≤ (s.link m).replies.length + 1 := fun m => by
    rw [hlink]
    split_ifs with hm _ hm'
    · subst hm; simp
    · subst hm; simp
    · obtain ⟨rfl, -⟩ := hm'; simp
    · omega
  refine h.of_links (fun i => State.slot_completeLinkreset t n tag i) (State.linksOnly_completeLinkreset ..).port_eq
    (State.linksOnly_completeLinkreset ..).stride_eq ?_ ?_ ?_ ?_ ?_
  · intro i sl hi
    rw [(State.linksOnly_completeLinkreset t n tag).admissions_eq]
    exact h.numbered i sl hi
  · intro m hm
    rcases hstatus m with ho | hsame
    · obtain ⟨c, hc⟩ := Link.isResetting_iff.mp hm
      rw [ho] at hc; cases hc
    · rwa [hsame] at hm
  · intro a m r ha
    rcases hstatus a with ho | hsame
    · rw [ho] at ha; cases ha
    · rw [hsame] at ha
      exact absurd ha (hnoRestart a r)
  · intro m
    rcases hstatus m with ho | hsame
    · refine Link.listFits_opened ho ?_
      have hr := hreplies m
      have hold : (s.link m).placesTaken ≤ 11 ∨ (s.completeLinkreset t n tag).link m = s.link m := by
        by_cases hm : m = t
        · subst hm
          have h1 := (h.lists m).resetting hreset
          have h2 := h.reservedPlaces_resetting hreset
          left; unfold Link.placesTaken; omega
        · rw [hlink, if_neg hm]
          split_ifs with hm'
          · obtain ⟨rfl, hawait⟩ := hm'
            exact .inl ((h.lists m).awaiting t hawait)
          · exact .inr rfl
      rcases hold with hold | hsame
      · unfold Link.placesTaken at hold ⊢
        rw [hres m]; omega
      · rw [hsame]; exact (h.lists m).all
    · rw [hsame]; exact h.lists m
  · intro m
    refine (h.lines m).congr ?_ ?_ <;>
    · rw [hlink]
      split_ifs with hm _ hm'
      · subst hm; simp [Link.placeReply]
      · subst hm; simp
      · obtain ⟨rfl, -⟩ := hm'; rfl
      · rfl

theorem State.Records.finishLinkreset (h : s.Records) (t : LinkId) : (s.finishLinkreset t).Records := by
  rcases State.finishLinkreset_cases (s := s) t with he | ⟨n, tag, ht, -, he⟩
  · rw [he]; exact h
  · rw [he]; exact h.completeLinkreset ht

theorem State.Records.completeRestart (h : s.Records) {n : LinkId} (hall : ∀ m, (s.link m).status = .resetting (.restart n))
    (hstop : s.stopping = false) : (s.completeRestart n).Records := by
  have hreset : ∀ m, (s.link m).isResetting = true := fun m => Link.isResetting_iff.mpr ⟨_, hall m⟩
  have hfree : ∀ i, s.slot i = none := fun i => by
    rw [Option.eq_none_iff_forall_not_mem]
    intro sl hi
    have := h.resetting i sl (hreset i.link) hi
    rw [← Bool.not_eq_true, State.stopping_iff] at hstop
    exact hstop ⟨i, sl, hi, this⟩
  have hlink : ∀ m, (s.completeRestart n).link m = (s.link m).reopen.queueNotice (.restarted .restart n) := fun m => by
    unfold State.completeRestart
    exact State.link_mapLinks s m fun _ l => l.reopen.queueNotice (.restarted .restart n)
  have hstatus : ∀ m, ((s.completeRestart n).link m).status = .opened := fun m => by rw [hlink]; simp [Link.reopen]
  have hres := State.reservedPlaces_congr (t := s.completeRestart n) (s := s) fun i => State.slot_completeRestart n i
  refine h.of_links (fun i => State.slot_completeRestart n i) rfl rfl ?_ ?_ ?_ ?_ ?_
  · intro i sl hi
    rw [hfree i] at hi; cases hi
  · intro m _; exact hreset m
  · intro a m r ha
    rw [hstatus a] at ha; cases ha
  · intro m
    refine Link.listFits_opened (hstatus m) ?_
    have h1 := (h.lists m).resetting (hreset m)
    have h2 := h.reservedPlaces_resetting (hreset m)
    have h3 : ((s.completeRestart n).link m).replies = (s.link m).replies := by rw [hlink]; simp
    unfold Link.placesTaken
    rw [hres m, h3]; omega
  · intro m
    refine (h.lines m).congr ?_ ?_ <;> (rw [hlink]; simp)

theorem State.Records.completeResets (h : s.Records) : s.completeResets.Records := by
  have fold : ∀ (ts : List LinkId) {s : State}, s.Records → (ts.foldl State.finishLinkreset s).Records := by
    intro ts
    induction ts with
    | nil => exact fun h => h
    | cons t ts ih => exact fun h => ih (h.finishLinkreset t)
  unfold State.completeResets
  split
  · rename_i n hn
    split
    · exact h
    · rename_i hstop
      obtain ⟨a, ha⟩ := State.restartInProgress_some hn
      exact h.completeRestart (fun m => h.restart a m n ha) (by simpa using hstop)
  · exact fold linkIds h

end Sys2Proof.Machine
end

section
/-! PROOFS. The records stay in agreement when an outcome is handled and when a request is taken. -/

namespace Sys2Proof.Machine

variable {s t u : State}

/-! ### Intake and free places -/

theorem State.intakeAble_iff {n : LinkId} : s.intakeAble n = true ↔ (s.link n).status = .opened ∧
    (s.link n).placesTaken < 12 ∧ (∀ a, s.port = .direct a → a.live = true → a.owner.link ≠ n) ∧ s.rstn = true ∧
    s.port ≠ .clear := by
  have hdirect : s.directBusy n = false ↔ ∀ a, s.port = .direct a → a.live = true → a.owner.link ≠ n := by
    unfold State.directBusy
    split
    · rename_i a ha
      simp [ha]
    · rename_i hp
      exact ⟨fun _ a ha => absurd ha (hp a), fun _ => rfl⟩
  have hfree : 0 < (s.link n).freePlaces ↔ (s.link n).placesTaken < 12 := by
    unfold Link.freePlaces Link.placesTaken replyPlaces; omega
  simp only [State.intakeAble, State.clearing, Bool.and_eq_true, decide_eq_true_eq, Bool.not_eq_true', decide_eq_false_iff_not,
    hdirect, hfree, and_assoc]

/-- What Request Intake n has seen of the state when it takes a frame, as far as the records need it. -/
structure State.Taking (s : State) (n : LinkId) : Prop where
  records : s.Records
  opened : (s.link n).status = .opened
  room : (s.link n).placesTaken < 12
  quiet : ∀ a, s.port = .direct a → a.live = true → a.owner.link ≠ n

theorem State.Records.taking (h : s.Records) {n : LinkId} (hable : s.intakeAble n = true) : s.Taking n := by
  obtain ⟨hopen, hroom, hquiet, _⟩ := State.intakeAble_iff.mp hable
  exact ⟨h, hopen, hroom, hquiet⟩

namespace State.Taking

variable {n : LinkId}

theorem notResetting (h : s.Taking n) : (s.link n).isResetting = false := by
  simp [Link.isResetting, h.opened]

theorem noRestart (h : s.Taking n) (a r : LinkId) : (s.link a).status ≠ .resetting (.restart r) := fun ha => by
  have := h.records.restart a n r ha
  rw [h.opened] at this; cases this

/-- A link that is OPEN before and after, with a place to spare before, has room for one more place taken. -/
theorem of_link (h : s.Taking n) (hslot : ∀ i, t.slot i = s.slot i) (hport : t.port = s.port) (hstride : t.stride = s.stride)
    (hadm : t.admissions = s.admissions) (hother : ∀ m, m ≠ n → (s.link m).agrees (t.link m))
    (hstatus : (t.link n).status = .opened) (hlines : (s.link n).sameLines (t.link n))
    (hreplies : (t.link n).replies.length ≤ (s.link n).replies.length + 1) : t.Records := by
  refine h.records.of_links hslot hport hstride (fun i sl hi => hadm ▸ h.records.numbered i sl hi) ?_ ?_ ?_ ?_
  · intro m hm
    by_cases hmn : m = n
    · subst hmn
      simp [Link.isResetting, hstatus] at hm
    · simpa only [Link.isResetting, (hother m hmn).1] using hm
  · intro a m r ha
    by_cases han : a = n
    · subst han; rw [hstatus] at ha; cases ha
    · rw [(hother a han).1] at ha
      exact absurd ha (h.noRestart a r)
  · intro m
    by_cases hmn : m = n
    · subst hmn
      refine Link.listFits_opened hstatus ?_
      have := h.room
      have hres := State.reservedPlaces_congr hslot m
      unfold Link.placesTaken at this ⊢
      omega
    · obtain ⟨hst, _, hre, _⟩ := hother m hmn
      refine (h.records.lists m).mono hst ?_ fun _ => by rw [hre]
      simp only [Link.placesTaken, hre, State.reservedPlaces_congr hslot m, le_refl]
  · intro m
    by_cases hmn : m = n
    · subst hmn
      exact (h.records.lines m).congr hlines.2.1 hlines.2.2
    · obtain ⟨_, _, _, htr, hli⟩ := hother m hmn
      exact (h.records.lines m).congr htr hli

/-- A reply in the free place. -/
theorem placeReply (h : s.Taking n) (r : Reply) : (s.placeReply n r).Records := by
  refine h.of_link (fun i => State.slot_placeReply s n r i) rfl rfl rfl (fun m hm => ?_) ?_ ?_ ?_
  · rw [State.link_placeReply, if_neg (Ne.symm hm)]; exact Link.agrees_refl _
  · rw [State.link_placeReply_self]; exact h.opened
  · rw [State.link_placeReply_self]; exact ⟨rfl, rfl, rfl⟩
  · rw [State.link_placeReply_self]; simp

/-- Where nothing the records speak of changes, the intake's view stays. -/
theorem of_agrees (h : s.Taking n) (hst : s.Agrees t) : t.Taking n where
  records := hst.records h.records
  opened := (hst.status n).trans h.opened
  room := by rw [hst.placesTaken]; exact h.room
  quiet := fun a ha => h.quiet a (hst.port ▸ ha)

end State.Taking

/-! ### Outcomes -/

theorem State.placesTaken_change {i : SlotId} {v : Option Slot} (hslot : ∀ j, t.slot j = if i = j then v else s.slot j)
    (hother : ∀ n, n ≠ i.link → (t.link n).replies = (s.link n).replies)
    (hplaces : (t.link i.link).replies.length + reservedBy v ≤ (s.link i.link).replies.length + reservedBy (s.slot i))
    (n : LinkId) : (t.link n).placesTaken ≤ (s.link n).placesTaken := by
  by_cases hn : n = i.link
  · subst hn
    have := State.reservedPlaces_change hslot
    unfold Link.placesTaken; omega
  · simp only [Link.placesTaken, State.reservedPlaces_other hslot hn, hother n hn, le_refl]

/-- The record a slot has after its outcome is handled: HELD in phase DEFERRED, else none. -/
def Slot.afterOutcome (sl : Slot) (hold : Half) (o : Outcome) : Option Slot :=
  if sl.phase = .deferred then some (sl.heldWith hold o) else none

theorem Slot.afterOutcome_outside {sl sl' : Slot} {hold : Half} {o : Outcome} (h : sl.afterOutcome hold o = some sl') :
    sl'.state.inEngine = false := by
  unfold Slot.afterOutcome at h
  split at h <;> cases h
  rfl

/-- `u` is `s` but for the record of slot i, which is `sl` and was `old`, for the Store, the watches and notices, and for the
port and the stride asked for: the state in which an outcome of slot i is handled. -/
structure State.OutcomeOf (s u : State) (i : SlotId) (old sl : Slot) : Prop where
  records : s.Records
  slot : s.slot i = some old
  notStopping : old.state ≠ .stopping
  set : ∀ j, u.slot j = if i = j then some sl else s.slot j
  form : sl.consistent = true
  tag : sl.tag = old.tag
  admission : sl.admission = old.admission
  state : sl.state = old.state
  reserved : sl.reserved = old.reserved
  status : ∀ n, (u.link n).status = (s.link n).status
  lines : ∀ n, (s.link n).sameLines (u.link n)
  replies : ∀ n, (u.link n).replies = (s.link n).replies
  admissions : u.admissions = s.admissions

namespace State.OutcomeOf

variable {i : SlotId} {old sl : Slot}

theorem slot_handled (h : s.OutcomeOf u i old sl) (o : Outcome) (j : SlotId) :
    (u.handleOutcome i o).slot j = if i = j then sl.afterOutcome (u.link i.link).hold o else s.slot j := by
  rw [State.slot_handleOutcome, h.set, if_pos rfl, h.set j]
  by_cases hij : i = j
  · subst hij; simp [Slot.afterOutcome]
  · simp [hij]

theorem links_handled (h : s.OutcomeOf u i old sl) (o : Outcome) :
    (∀ n, (u.link n).sameLines ((u.handleOutcome i o).link n)) ∧
    (∀ n, n ≠ i.link → ((u.handleOutcome i o).link n).replies = (u.link n).replies) ∧
    ((u.handleOutcome i o).link i.link).replies.length + reservedBy (sl.afterOutcome (u.link i.link).hold o) ≤
      (u.link i.link).replies.length + reservedBy (some sl) := by
  have hslot : u.slot i = some sl := by rw [h.set, if_pos rfl]
  rcases State.handleOutcome_cases (s := u) i o with ⟨hnone, _⟩ | ⟨sl', hsl', hcases⟩
  · rw [hslot] at hnone; cases hnone
  · obtain rfl := Option.some.inj (hslot.symm.trans hsl')
    obtain ⟨_, _, _, hres, _⟩ := Slot.consistent_iff.mp h.form
    rcases hcases with ⟨hp, he⟩ | ⟨hp, he⟩ | ⟨hp, he⟩ <;> rw [he]
    · refine ⟨State.sameLines_updLink (Link.sameLines_answerOutcome i.idx sl o), fun n hn => State.replies_updLink_other hn _, ?_⟩
      have hreserved : sl.reserved = true := hres.mpr ⟨hp, h.state ▸ h.notStopping⟩
      rw [State.link_updLink_self]
      simp [Link.answerOutcome, Slot.afterOutcome, hp, reservedBy, hreserved, Link.setSlot]
    · refine ⟨State.sameLines_updLink (Link.sameLines_holdOutcome i.idx sl o), fun n hn => State.replies_updLink_other hn _, ?_⟩
      rw [State.link_updLink_self, Link.replies_holdOutcome]
      simp [Slot.afterOutcome, hp, reservedBy, Slot.heldWith]
    · refine ⟨State.sameLines_updLink (Link.sameLines_setSlot i.idx none), fun n hn => State.replies_updLink_other hn _, ?_⟩
      have : ((u.setSlot i none).link i.link).replies = (u.link i.link).replies := by
        rw [State.setSlot, State.link_updLink_self]; rfl
      rw [this]
      simp [Slot.afterOutcome, hp, reservedBy]

/-- The outcome handled: the records agree when engine and access do, and no Reply List is fuller than before. -/
theorem handled (h : s.OutcomeOf u i old sl) (o : Outcome) (hengine : (u.handleOutcome i o).Engine)
    (haccess : (u.handleOutcome i o).AccessFits) :
    (u.handleOutcome i o).Records ∧ ∀ n, ((u.handleOutcome i o).link n).placesTaken ≤ (s.link n).placesTaken := by
  obtain ⟨hlines, hother, hplaces⟩ := h.links_handled o
  have hreserved : reservedBy (some sl) = reservedBy (s.slot i) := by rw [h.slot]; simp [reservedBy, h.reserved]
  have hother' : ∀ n, n ≠ i.link → ((u.handleOutcome i o).link n).replies = (s.link n).replies := fun n hn =>
    (hother n hn).trans (h.replies n)
  rw [h.replies, hreserved] at hplaces
  refine ⟨h.records.change (h.slot_handled o) ?_ (fun n => ?_) ?_ hengine haccess hother' hplaces fun hr => ?_,
    State.placesTaken_change (h.slot_handled o) hother' hplaces⟩
  · intro sl' hsl'
    unfold Slot.afterOutcome at hsl'
    split at hsl'
    · rename_i hp
      cases hsl'
      exact ⟨Slot.consistent_heldWith _ o hp h.form, old, h.slot, h.tag, h.admission, fun e => absurd e h.notStopping⟩
    · cases hsl'
  · obtain ⟨h1, h2, h3⟩ := hlines n
    obtain ⟨h1', h2', h3'⟩ := h.lines n
    exact ⟨h1.trans h1', h2.trans h2', h3.trans h3'⟩
  · exact (State.linksOnly_handleOutcome i o).admissions_eq.trans h.admissions
  · exact absurd (h.records.resetting i old hr h.slot) h.notStopping

end State.OutcomeOf

/-- An outcome of a slot that neither the engine nor a direct access is at work for. -/
theorem State.Records.handleOutcome (h : s.Records) {i : SlotId} {sl : Slot} (hslot : s.slot i = some sl)
    (hout : sl.state.inEngine = false) (hnot : ∀ a, s.port = .direct a → a.live = true → a.owner ≠ i) (o : Outcome) :
    (s.handleOutcome i o).Records ∧ ∀ n, ((s.handleOutcome i o).link n).placesTaken ≤ (s.link n).placesTaken := by
  have hof : s.OutcomeOf s i sl sl :=
    { records := h, slot := hslot, notStopping := fun e => by rw [e] at hout; cases hout
      set := fun j => by split <;> simp_all
      form := h.slots i sl hslot, tag := rfl, admission := rfl, state := rfl, reserved := rfl, status := fun _ => rfl
      lines := fun n => Link.sameLines_refl _, replies := fun _ => rfl, admissions := rfl }
  have honly := State.linksOnly_handleOutcome (s := s) i o
  refine hof.handled o (h.engine.change (hof.slot_handled o) (engineSame_of_outside (fun x hx => ?_) fun x hx =>
    Slot.afterOutcome_outside hx) honly.stride_eq honly.port_eq) (h.access.change (hof.slot_handled o) honly.port_eq hnot)
  obtain rfl := Option.some.inj (hslot.symm.trans hx)
  exact hout

end Sys2Proof.Machine
end

section
/-! PROOFS. The records stay in agreement when Request Intake takes a frame (R7 to R30, R184, R187). -/

namespace Sys2Proof.Machine

variable {s t : State} {n : LinkId}

/-! ### CLAIM and CANCEL -/

theorem State.placesTaken_setSlot {i : SlotId} {v : Option Slot} (h : reservedBy v ≤ reservedBy (s.slot i)) (m : LinkId) :
    ((s.setSlot i v).link m).placesTaken ≤ (s.link m).placesTaken := by
  have hreplies : ∀ m, ((s.setSlot i v).link m).replies = (s.link m).replies := fun m => by
    rw [State.setSlot, State.link_updLink]
    split <;> rfl
  refine State.placesTaken_change (fun j => s.slot_setSlot i j v) (fun m _ => hreplies m) ?_ m
  rw [hreplies]; omega

theorem State.status_setSlot (i : SlotId) (v : Option Slot) (m : LinkId) : ((s.setSlot i v).link m).status = (s.link m).status :=
  (State.sameLines_updLink (Link.sameLines_setSlot i.idx v) m).1

namespace State.Taking

theorem owner_ne (h : s.Taking n) (k : SlotIdx) : ∀ a, s.port = .direct a → a.live = true → a.owner ≠ ⟨n, k⟩ :=
  fun a ha hlive e => h.quiet a ha hlive (congrArg SlotId.link e)

/-- A change of a slot of link n that keeps the records and takes no place leaves the intake able. -/
theorem of_slot (h : s.Taking n) (hrec : t.Records) (hstatus : (t.link n).status = (s.link n).status)
    (hplaces : (t.link n).placesTaken ≤ (s.link n).placesTaken) (hport : t.port = s.port) : t.Taking n where
  records := hrec
  opened := hstatus.trans h.opened
  room := lt_of_le_of_lt hplaces h.room
  quiet := fun a ha => h.quiet a (hport ▸ ha)

theorem setSlot (h : s.Taking n) {k : SlotIdx} {v : Option Slot} (hv : slotFollows (s.slot ⟨n, k⟩) v)
    (hengine : engineSame (s.slot ⟨n, k⟩) v) (hreserved : reservedBy v ≤ reservedBy (s.slot ⟨n, k⟩)) :
    (s.setSlot ⟨n, k⟩ v).Taking n :=
  h.of_slot (h.records.setSlot hv hengine hreserved (h.owner_ne k)) (State.status_setSlot _ _ n)
    (State.placesTaken_setSlot hreserved n) rfl

/-- A HELD slot goes. -/
theorem dropSlot (h : s.Taking n) {k : SlotIdx} {sl : Slot} (hslot : s.slot ⟨n, k⟩ = some sl) (hheld : sl.state = .held) :
    (s.setSlot ⟨n, k⟩ none).Taking n := by
  refine h.setSlot (slotFollows_none _) (engineSame_of_outside (fun x hx => ?_) fun _ hx => nomatch hx) (Nat.zero_le _)
  obtain rfl := Option.some.inj (hslot.symm.trans hx)
  rw [hheld]; rfl

theorem takeClaim (h : s.Taking n) (tag : Tag) : (s.takeClaim n tag).Records := by
  unfold State.takeClaim
  split
  · exact h.placeReply _
  · rename_i k sl htag
    obtain ⟨hslot, _⟩ := State.slotWithTag_some htag
    split
    · rename_i o hheld ho
      have := (h.dropSlot hslot hheld).placeReply (.answer o.status tag o.words)
      rwa [State.setSlot, State.placeReply, State.updLink_updLink] at this
    · exact h.placeReply _

theorem cancelTarget (h : s.Taking n) {k : SlotIdx} {sl : Slot} (hslot : s.slot ⟨n, k⟩ = some sl) :
    (s.cancelTarget ⟨n, k⟩ sl).Taking n := by
  have outcome (hout : sl.state.inEngine = false) (o : Outcome) : (s.handleOutcome ⟨n, k⟩ o).Taking n := by
    obtain ⟨hrec, hplaces⟩ := h.records.handleOutcome hslot hout (h.owner_ne k) o
    refine h.of_slot hrec ?_ (hplaces n) (State.linksOnly_handleOutcome ..).port_eq
    rcases State.handleOutcome_cases (s := s) ⟨n, k⟩ o with ⟨_, he⟩ | ⟨sl', _, hcases⟩
    · rw [he]
    · rcases hcases with ⟨_, he⟩ | ⟨_, he⟩ | ⟨_, he⟩ <;> rw [he]
      · exact (State.sameLines_updLink (Link.sameLines_answerOutcome k sl' o) n).1
      · exact (State.sameLines_updLink (Link.sameLines_holdOutcome k sl' o) n).1
      · exact State.status_setSlot _ _ n
  unfold State.cancelTarget
  split
  · rename_i hs; exact outcome (by rw [hs]; rfl) _
  · rename_i hs; exact outcome (by rw [hs]; rfl) _
  · rename_i hs; exact outcome (by rw [hs]; rfl) _
  · rename_i hs
    refine h.setSlot ?_ (hslot ▸ engineSame_of_state rfl) (hslot ▸ le_refl _)
    rintro _ ⟨⟩
    exact ⟨Slot.consistent_marked hs (h.records.slots _ sl hslot), sl, hslot, rfl, rfl, id⟩
  · rename_i hs; exact h.dropSlot hslot hs
  · exact h

theorem takeCancel (h : s.Taking n) (tag : Tag) : (s.takeCancel n tag).Records := by
  unfold State.takeCancel
  split
  · exact h.placeReply _
  · rename_i k sl htag
    exact (h.cancelTarget (State.slotWithTag_some htag).1).placeReply _

end State.Taking

/-! ### Admission -/

theorem State.translateJob_kind {j : Job Ref} {job : Job Operand} (h : s.translateJob n j = .ok job) : job.kind = j.kind := by
  cases j with
  | copy a b =>
    obtain ⟨x, _, h⟩ := bind_ok h
    obtain ⟨y, _, h⟩ := bind_ok h
    cases h; rfl
  | map a b m =>
    obtain ⟨x, _, h⟩ := bind_ok h
    obtain ⟨y, _, h⟩ := bind_ok h
    cases h; rfl
  | _ =>
    obtain ⟨x, _, h⟩ := bind_ok h
    cases h; rfl

theorem DataRequest.postFits_of_sendable {r : DataRequest} (h : r.sendable = true) : r.postFits := by
  obtain ⟨job, posted, data⟩ := r
  cases job with
  | write a => exact fun _ => rfl
  | _ =>
    simp only [DataRequest.sendable, Bool.and_eq_true, Bool.not_eq_true'] at h
    intro hp
    simp_all

/-- The record that an admission leaves: deferred at once under a budget of 0 (R12). -/
def State.admitted (s : State) (n : LinkId) (tag : Tag) (r : DataRequest) (job : Job Operand) : Slot :=
  if !r.posted && decide ((s.link n).budget = 0) then (newSlot (s.link n) s.admissions tag r job).deferred
  else newSlot (s.link n) s.admissions tag r job

theorem State.slot_admitted (k : SlotIdx) (tag : Tag) (r : DataRequest) (job : Job Operand) (j : SlotId) :
    (s.admission n k tag r job).slot j = if (⟨n, k⟩ : SlotId) = j then some (s.admitted n tag r job) else s.slot j :=
  State.slot_admission n k tag r job j

theorem State.admitted_fields (tag : Tag) (r : DataRequest) (job : Job Operand) :
    (s.admitted n tag r job).tag = tag ∧ (s.admitted n tag r job).admission = s.admissions ∧
      (s.admitted n tag r job).state.inEngine = false := by
  unfold State.admitted
  split <;> exact ⟨rfl, rfl, by cases job <;> rfl⟩

theorem State.consistent_admitted {tag : Tag} {r : DataRequest} {job : Job Operand} (hpost : r.posted = true → job.kind = .write) :
    (s.admitted n tag r job).consistent = true := by
  have hnew := Slot.consistent_newSlot (l := s.link n) (a := s.admissions) (tag := tag) hpost
  unfold State.admitted
  split
  · rename_i hb
    simp only [Bool.and_eq_true, Bool.not_eq_true'] at hb
    exact Slot.consistent_deferred (by simp [newSlot, hb.1]) hnew
  · exact hnew

theorem State.link_admission (k : SlotIdx) (tag : Tag) (r : DataRequest) (job : Job Operand) (m : LinkId) :
    (s.admission n k tag r job).link m =
      if n = m then
        if !r.posted && decide ((s.link n).budget = 0) then
          ((s.link m).setSlot k (some (newSlot (s.link n) s.admissions tag r job))).deferSlot k
            (newSlot (s.link n) s.admissions tag r job)
        else (s.link m).setSlot k (some (newSlot (s.link n) s.admissions tag r job))
      else s.link m := by
  have hset : ∀ (v : Option Slot) (x : Nat), State.link { s.setSlot ⟨n, k⟩ v with admissions := x } m =
      if n = m then (s.link m).setSlot k v else s.link m := fun v x =>
    State.link_updLink s n m fun l => l.setSlot k v
  unfold State.admission
  dsimp only
  split
  · rw [State.link_updLink, hset]
    split <;> rfl
  · exact hset _ _

/-- An admission takes one place at most in its link's Reply List: a reservation, or DEFERRED. -/
theorem State.replies_admission (k : SlotIdx) (tag : Tag) (r : DataRequest) (job : Job Operand) :
    ((s.admission n k tag r job).link n).replies.length + reservedBy (some (s.admitted n tag r job)) ≤
      (s.link n).replies.length + 1 := by
  rw [State.link_admission, if_pos rfl]
  unfold State.admitted
  split
  · simp [Link.deferSlot, Link.setSlot, reservedBy, Slot.deferred]
  · simp only [Link.setSlot, reservedBy]
    split <;> omega

theorem State.Taking.admission (h : s.Taking n) {k : SlotIdx} {tag : Tag} {r : DataRequest} {job : Job Operand}
    (hfree : s.slot ⟨n, k⟩ = none) (htag : ∀ j sl, s.slot ⟨n, j⟩ = some sl → sl.tag ≠ tag)
    (hpost : r.posted = true → job.kind = .write) : (s.admission n k tag r job).Records := by
  have hslot := State.slot_admitted (s := s) (n := n) k tag r job
  obtain ⟨hfieldTag, hfieldNum, hfieldState⟩ := State.admitted_fields (s := s) (n := n) tag r job
  have hother : ∀ m, m ≠ n → (s.admission n k tag r job).link m = s.link m := fun m hm => by
    rw [State.link_admission, if_neg (Ne.symm hm)]
  have hlink : ((s.admission n k tag r job).link n).status = .opened ∧
      (s.link n).sameLines ((s.admission n k tag r job).link n) := by
    have hopen := h.opened
    rw [State.link_admission, if_pos rfl]
    split <;> exact ⟨hopen, rfl, rfl, rfl⟩
  have hport : (s.admission n k tag r job).port = s.port ∧ (s.admission n k tag r job).stride = s.stride ∧
      (s.admission n k tag r job).admissions = s.admissions + 1 := by
    unfold State.admission
    dsimp only
    split <;> exact ⟨rfl, rfl, rfl⟩
  have hout : engineSame (s.slot ⟨n, k⟩) (some (s.admitted n tag r job)) := by
    refine engineSame_of_outside (fun x hx => ?_) fun x hx => ?_
    · rw [hfree] at hx; cases hx
    · cases hx; exact hfieldState
  have hold : ∀ i sl, (s.admission n k tag r job).slot i = some sl →
      (⟨n, k⟩ : SlotId) = i ∧ sl = s.admitted n tag r job ∨ s.slot i = some sl := fun i sl hi => by
    rw [hslot] at hi
    split at hi
    · cases hi; exact .inl ⟨‹_›, rfl⟩
    · exact .inr hi
  refine ⟨fun i sl hi => ?_, h.records.engine.change hslot hout hport.2.1 hport.1,
    h.records.access.change hslot hport.1 (h.owner_ne k), fun i sl hr hi => ?_, fun a m r' ha => ?_, fun m => ?_, fun m => ?_,
    fun i sl hi => ?_, fun i j sl sl' hi hj hij => ?_⟩
  · rcases hold i sl hi with ⟨_, rfl⟩ | hi
    · exact State.consistent_admitted hpost
    · exact h.records.slots i sl hi
  · have hin : i.link ≠ n := fun e => by
      rw [e, Link.isResetting, hlink.1] at hr; cases hr
    rw [hother _ hin] at hr
    rcases hold i sl hi with ⟨rfl, _⟩ | hi
    · exact absurd rfl hin
    · exact h.records.resetting i sl hr hi
  · by_cases han : a = n
    · subst han; rw [hlink.1] at ha; cases ha
    · rw [hother a han] at ha
      exact absurd ha (h.noRestart a r')
  · by_cases hm : m = n
    · subst hm
      refine Link.listFits_opened hlink.1 ?_
      have hroom := h.room
      have hreplies := State.replies_admission (s := s) (n := m) k tag r job
      have hreserved := State.reservedPlaces_change hslot
      simp only [hfree] at hreserved
      unfold Link.placesTaken at hroom ⊢
      have : reservedBy none = 0 := rfl
      omega
    · rw [hother m hm]; exact h.records.lists m
  · by_cases hm : m = n
    · subst hm; exact (h.records.lines m).congr hlink.2.2.1 hlink.2.2.2
    · rw [hother m hm]; exact h.records.lines m
  · rw [hport.2.2]
    rcases hold i sl hi with ⟨_, rfl⟩ | hi
    · rw [hfieldNum]; omega
    · exact Nat.lt_succ_of_lt (h.records.numbered i sl hi)
  · rcases hold i sl hi with ⟨rfl, rfl⟩ | hi' <;> rcases hold j sl' hj with ⟨rfl, rfl⟩ | hj'
    · exact absurd rfl hij
    · rw [hfieldNum, hfieldTag]
      refine ⟨ne_of_gt (h.records.numbered j sl' hj'), fun e => ?_⟩
      obtain ⟨jl, jk⟩ := j
      obtain rfl : n = jl := e
      exact (htag jk sl' hj').symm
    · rw [hfieldNum, hfieldTag]
      refine ⟨ne_of_lt (h.records.numbered i sl hi'), fun e => ?_⟩
      obtain ⟨il, ik⟩ := i
      obtain rfl : il = n := e
      exact htag ik sl hi'
    · exact h.records.distinct i j sl sl' hi' hj' hij

theorem State.lowestFree_some {k : SlotIdx} (h : s.lowestFree n = some k) : s.slot ⟨n, k⟩ = none := by
  simpa using List.find?_some h

theorem State.Taking.takeData (h : s.Taking n) (tag : Tag) {r : DataRequest} (hr : r.sendable = true) :
    (s.takeData n tag r).Records := by
  rcases State.takeData_cases (s := s) n tag r with ⟨e, he⟩ | ⟨k, job, _, htag, hfree, hjob, he⟩ <;> rw [he]
  · exact h.placeReply _
  · exact h.admission (State.lowestFree_some hfree) (State.slotWithTag_none.mp htag) fun hp =>
      (State.translateJob_kind hjob).trans (DataRequest.postFits_of_sendable hr hp)

end Sys2Proof.Machine
end

section
/-! PROOFS. The records stay in agreement when a reset is accepted (R30, R102, R158, R184, R187), and when any frame is taken. -/

namespace Sys2Proof.Machine

variable {s t : State} {n : LinkId}

/-! ### The acceptance of a reset -/

theorem resetSlot_some {inProgress : Bool} {v : Option Slot} {sl' : Slot} (h : resetSlot inProgress v = some sl') :
    ∃ sl, v = some sl ∧ (sl.state = .running ∧ inProgress = true ∧ sl' = sl.toStopping ∨ sl.state = .stopping ∧ sl' = sl) := by
  cases v with
  | none => cases h
  | some sl =>
    refine ⟨sl, rfl, ?_⟩
    unfold resetSlot at h
    cases hs : sl.state <;> simp only [hs] at h
    case running =>
      split at h
      · cases h; exact .inl ⟨rfl, ‹_›, rfl⟩
      · cases h
    case stopping => cases h; exact .inr ⟨rfl, rfl⟩
    all_goals cases h

theorem slotFollows_resetSlot {inProgress : Bool} {v : Option Slot} (h : ∀ sl, v = some sl → sl.consistent = true) :
    slotFollows v (resetSlot inProgress v) := by
  intro sl' hsl'
  obtain ⟨sl, hv, ⟨hrun, _, rfl⟩ | ⟨_, rfl⟩⟩ := resetSlot_some hsl'
  · exact ⟨Slot.consistent_toStopping hrun (h sl hv), sl, hv, rfl, rfl, fun _ => rfl⟩
  · exact ⟨h sl' hv, sl', hv, rfl, rfl, id⟩

theorem resetSlot_stopping {inProgress : Bool} {v : Option Slot} {sl' : Slot} (h : resetSlot inProgress v = some sl') :
    sl'.state = .stopping := by
  obtain ⟨sl, _, ⟨_, _, rfl⟩ | ⟨hs, rfl⟩⟩ := resetSlot_some h
  · rfl
  · exact hs

/-- What the engine sees of a slot of a link that is reset. -/
theorem runs_resetSlot (inProgress : Bool) (v : Option Slot) :
    (resetSlot inProgress v).any (fun sl => decide (sl.state = .running)) = false ∧
      (resetSlot inProgress v).any (fun sl => decide (sl.state = .stopping)) =
        (v.any (fun sl => decide (sl.state = .stopping)) ||
          (v.any (fun sl => decide (sl.state = .running)) && inProgress)) := by
  cases v with
  | none => exact ⟨rfl, rfl⟩
  | some sl => cases hs : sl.state <;> cases inProgress <;> simp [resetSlot, hs, Slot.toStopping]

section Accepted

variable {targets : LinkId → Bool} {cause : ResetCause}

theorem State.strideInProgress_resetLinks (i : SlotId) :
    (s.resetLinks targets cause).strideInProgress i = s.strideInProgress i := by
  show (match s.port.reset targets with | .stride r => decide (r.owner = i) | _ => false) = _
  unfold State.strideInProgress
  cases hp : s.port with
  | direct a => cases ht : targets a.owner.link <;> simp [Port.reset, ht]
  | _ => rfl

theorem State.strideAsked_resetLinks (i : SlotId) :
    (s.resetLinks targets cause).strideAsked i = (s.strideAsked i && !targets i.link) := by
  show (s.stride.filter fun r => !targets r.owner.link).any (fun r => decide (r.owner = i)) = _
  unfold State.strideAsked
  cases s.stride with
  | none => rfl
  | some r =>
    by_cases hi : r.owner = i
    · subst hi
      cases ht : targets r.owner.link <;> simp [Option.filter, ht]
    · cases ht : targets r.owner.link <;> simp [Option.filter, ht, hi]

theorem State.runs_resetLinks (i : SlotId) :
    (s.resetLinks targets cause).runs i = (s.runs i && !targets i.link) ∧
      (s.resetLinks targets cause).stops i =
        (s.stops i || (s.runs i && s.strideInProgress i && targets i.link)) := by
  unfold State.runs State.stops
  rw [State.slot_resetLinks]
  cases ht : targets i.link
  · simp
  · simp only [if_true, Bool.not_true, Bool.and_false, Bool.and_true]
    exact runs_resetSlot _ _

theorem State.Engine.resetLinks (h : s.Engine) : (s.resetLinks targets cause).Engine := by
  have hruns := State.runs_resetLinks (s := s) (targets := targets) (cause := cause)
  refine ⟨fun i j hi hj => ?_, fun i => ?_⟩
  · have inEngine : ∀ i, ((s.resetLinks targets cause).runs i || (s.resetLinks targets cause).stops i) = true →
        (s.runs i || s.stops i) = true := fun i hi => by
      rw [(hruns i).1, (hruns i).2] at hi
      revert hi
      cases s.runs i <;> cases s.stops i <;> simp
    exact h.one i j (inEngine i hi) (inEngine j hj)
  · have hfits := h.fits i
    have hboth : (s.runs i && s.stops i) = false := by
      unfold State.runs State.stops
      cases s.slot i with
      | none => rfl
      | some sl => cases hs : sl.state <;> simp [hs]
    rw [(hruns i).1, (hruns i).2, State.strideInProgress_resetLinks, State.strideAsked_resetLinks]
    revert hfits hboth
    cases s.runs i <;> cases s.stops i <;> cases s.strideAsked i <;> cases s.strideInProgress i <;> cases targets i.link <;>
      simp [outstandingFits]

theorem State.AccessFits.resetLinks (h : s.AccessFits) : (s.resetLinks targets cause).AccessFits := by
  intro a ha hlive
  have hport : s.port.reset targets = .direct a := ha
  have hcase : s.port = .direct a ∧ targets a.owner.link = false := by
    unfold Port.reset at hport
    split at hport
    · split at hport
      · cases hport; cases hlive
      · rename_i heq ht
        obtain rfl := Port.direct.inj (heq.symm.trans hport)
        exact ⟨hport, by simpa using ht⟩
    · rename_i hnot
      exact absurd hport (hnot a)
  rw [State.slot_resetLinks, hcase.2]
  exact h a hcase.1 hlive

theorem State.Records.resetLinks (h : s.Records)
    (hrestart : ∀ a m r, ((s.resetLinks targets cause).link a).status = .resetting (.restart r) →
      ((s.resetLinks targets cause).link m).status = .resetting (.restart r)) : (s.resetLinks targets cause).Records := by
  have hlink := State.link_resetLinks (s := s) targets cause
  have hslot := State.slot_resetLinks (s := s) targets cause
  have hfollows : ∀ i, slotFollows (s.slot i) ((s.resetLinks targets cause).slot i) := fun i => by
    rw [hslot]
    split
    · exact slotFollows_resetSlot fun sl hsl => h.slots i sl hsl
    · exact h.follows_refl i
  obtain ⟨hnum, hdistinct⟩ := h.numbers_follow hfollows rfl
  have hstopping : ∀ i sl, targets i.link = true → (s.resetLinks targets cause).slot i = some sl → sl.state = .stopping :=
    fun i sl ht hi => by
      rw [hslot, ht] at hi
      exact resetSlot_stopping hi
  refine ⟨fun i sl hi => (hfollows i sl hi).1, h.engine.resetLinks, h.access.resetLinks, fun i sl hr hi => ?_, hrestart,
    fun m => ?_, fun m => ?_, hnum, hdistinct⟩
  · cases ht : targets i.link
    · rw [hlink, ht] at hr
      rw [hslot, ht] at hi
      exact h.resetting i sl hr hi
    · exact hstopping i sl ht hi
  · cases ht : targets m
    · have : (s.resetLinks targets cause).link m = s.link m := by rw [hlink, ht]; rfl
      rw [this]; exact h.lists m
    · have hreplies : ((s.resetLinks targets cause).link m).replies.length ≤ 1 := by
        rw [hlink, ht]
        simp only [if_true, Link.reset]
        split
        · exact List.length_take_le 1 _
        · exact Nat.zero_le 1
      have hreserved : ((s.resetLinks targets cause).link m).reservedPlaces = 0 := by
        rw [State.reservedPlaces_eq, List.countP_eq_zero]
        intro k _ hk
        obtain ⟨sl, hsl, hres⟩ := (Option.any_eq_true ..).mp hk
        obtain ⟨_, _, _, hres', _⟩ := Slot.consistent_iff.mp (hfollows _ sl hsl).1
        exact (hres'.mp hres).2 (hstopping ⟨m, k⟩ sl ht hsl)
      refine ⟨by unfold Link.placesTaken; omega, fun x hx => ?_, fun _ => hreplies⟩
      rw [hlink, ht] at hx
      cases hx
  · refine (h.lines m).congr ?_ ?_ <;> (rw [hlink]; split <;> rfl)

end Accepted

namespace State.Taking

theorem awaitReset (h : s.Taking n) (t : LinkId) : (s.awaitReset n t).Records := by
  unfold State.awaitReset
  split
  · exact h.records
  · have hother : ∀ {m}, m ≠ n → (s.updLink n fun l => { l with status := .awaiting t }).link m = s.link m := fun hm =>
      State.link_updLink_ne s (Ne.symm hm) _
    have hself : (s.updLink n fun l => { l with status := .awaiting t }).link n = { s.link n with status := .awaiting t } :=
      State.link_updLink_self s n _
    refine h.records.of_links (fun i => State.slot_updLink s (f := fun l => { l with status := .awaiting t }) (fun _ _ => rfl) i) rfl rfl h.records.numbered ?_ ?_ ?_ ?_
    · intro m hm
      by_cases hmn : m = n
      · subst hmn
        rw [hself] at hm; cases hm
      · rwa [hother hmn] at hm
    · intro a m r ha
      by_cases han : a = n
      · subst han
        rw [hself] at ha; cases ha
      · rw [hother han] at ha
        exact absurd ha (h.noRestart a r)
    · intro m
      by_cases hmn : m = n
      · subst hmn
        rw [hself]
        have hroom := h.room
        have : Link.placesTaken { s.link m with status := .awaiting t } = (s.link m).placesTaken := rfl
        exact ⟨by omega, fun _ _ => by omega, fun hr => nomatch hr⟩
      · rw [hother hmn]; exact h.records.lists m
    · intro m
      by_cases hmn : m = n
      · subst hmn
        rw [hself]; exact (h.records.lines m).congr rfl rfl
      · rw [hother hmn]; exact h.records.lines m

theorem status_awaitReset (h : s.Taking n) (t m r : LinkId) : ((s.awaitReset n t).link m).status ≠ .resetting (.restart r) := by
  unfold State.awaitReset
  split
  · exact h.noRestart m r
  · rw [State.link_updLink]
    split
    · exact nofun
    · exact h.noRestart m r

theorem takeLinkreset (h : s.Taking n) (tag : Tag) (t : LinkId) : (s.takeLinkreset n tag t).Records := by
  unfold State.takeLinkreset
  split
  · exact h.placeReply _
  · split
    · exact h.placeReply _
    · refine (h.awaitReset t).resetLinks fun a m r ha => ?_
      rw [State.link_resetLinks] at ha
      split at ha
      · cases ha
      · exact absurd ha (h.status_awaitReset t a r)

theorem takeRestart (h : s.Taking n) (tag : Tag) : (s.takeRestart n tag).Records := by
  unfold State.takeRestart
  split
  · exact h.placeReply _
  · refine h.records.resetLinks fun a m r ha => ?_
    rw [State.link_resetLinks] at ha ⊢
    exact ha

/-! ### Any frame -/

theorem takeRequest (h : s.Taking n) (tag : Tag) {r : Request} (hr : r.sendable = true) : (s.takeRequest n tag r).Records := by
  cases r with
  | data r => exact h.takeData tag hr
  | claim => exact h.takeClaim tag
  | cancel => exact h.takeCancel tag
  | watch seg off c m w =>
    simp only [State.takeRequest, State.takeWatch]
    split
    · exact h.placeReply _
    · split
      · exact h.placeReply _
      · exact (h.of_agrees (State.agrees_setWatch _ _)).placeReply _
  | rearm id =>
    simp only [State.takeRequest, State.takeRearm]
    split
    · exact h.placeReply _
    · split
      · exact (h.of_agrees (State.agrees_setWatch _ _)).placeReply _
      · exact h.placeReply _
  | unwatch id =>
    simp only [State.takeRequest, State.takeUnwatch]
    split
    · exact h.placeReply _
    · exact (h.of_agrees (State.agrees_setWatch _ _)).placeReply _
  | define id base len rights =>
    simp only [State.takeRequest, State.takeDefine]
    split_ifs
    · exact h.placeReply _
    · exact h.placeReply _
    · exact h.placeReply _
    · exact (h.of_agrees ((State.agrees_dropWatchesOn id).trans (State.agrees_setSegment id _))).placeReply _
    · exact (h.of_agrees (State.agrees_setSegment id _)).placeReply _
  | drop id =>
    simp only [State.takeRequest, State.takeDrop]
    split_ifs
    · exact h.placeReply _
    · exact h.placeReply _
    · exact h.placeReply _
    · exact (h.of_agrees ((State.agrees_dropWatchesOn id).trans (State.agrees_setSegment id _))).placeReply _
  | linkset target p =>
    simp only [State.takeRequest, State.takeLinkset]
    split
    · exact h.placeReply _
    · refine (h.of_agrees (State.agrees_updLink fun l => ?_)).placeReply _
      cases p <;> exact Link.agrees_refl l
  | query q =>
    cases q with
    | link m =>
      simp only [State.takeRequest, State.takeQuery]
      split
      · exact h.placeReply _
      · exact h.placeReply _
    | _ => exact h.placeReply _
  | linkreset t => exact h.takeLinkreset tag t
  | restart => exact h.takeRestart tag

theorem takeFrame (h : s.Taking n) (f : Frame) : (s.takeFrame n f).Records := by
  unfold State.takeFrame
  split
  · exact h.placeReply _
  · rename_i r hr
    exact h.takeRequest f.tag (frame_of_parseFrame hr).1

end State.Taking

end Sys2Proof.Machine
end

section
/-! PROOFS. The records stay in agreement when an access completes, when service opens and at a reset of the part; with that,
every step keeps them (R3 to R6, R30, R54, R66, R82, R90, R145 to R147, R158, R180, R187). -/

namespace Sys2Proof.Machine

variable {s t : State}

/-! ### Completions at the Store Port -/

/-- Two states with the same links, port, stride asked for and admission count agree in what the records speak of. -/
theorem State.agrees_of_links (hlinks : t.links = s.links) (hport : t.port = s.port) (hstride : t.stride = s.stride)
    (hadm : t.admissions = s.admissions) : s.Agrees t := by
  refine ⟨fun n => ?_, hport, hstride, hadm⟩
  simp only [State.link, hlinks]
  exact Link.agrees_refl _

theorem State.Records.of_same (h : s.Records) (hlinks : t.links = s.links) (hport : t.port = s.port)
    (hstride : t.stride = s.stride) (hadm : t.admissions = s.admissions) : t.Records :=
  (State.agrees_of_links hlinks hport hstride hadm).records h

/-- An access that is done leaves the port idle, and nothing else that the records speak of changes. -/
theorem State.agrees_accessDone (st : Store) (faults : Nat) (rep : Option WriteReport) :
    State.Agrees { s with port := .idle } (State.handReport { s with store := st, port := .idle, faults := faults } rep) :=
  State.Agrees.trans (t := { s with store := st, port := .idle, faults := faults }) (State.agrees_of_links rfl rfl rfl rfl)
    (State.agrees_handReport rep)

theorem State.Records.completeDirect (h : s.Records) {a : DirectAccess} (hport : s.port = .direct a) :
    (s.completeDirect a).Records := by
  have hidle : State.Records { s with port := .idle } := by
    refine h.of_port rfl rfl (h.engine.congr (fun _ => rfl) (fun _ => rfl) rfl fun i => ?_) fun x hx => nomatch hx
    simp [State.strideInProgress, hport]
  have hagree := State.agrees_accessDone (s := s) (a.run s.store).store (countFault (a.run s.store).fault s.faults)
    (reportOf a.owner.link (a.run s.store).first (a.run s.store).marks)
  unfold State.completeDirect
  dsimp only
  split
  · rename_i hlive
    obtain ⟨sl, hslot, hwait, _⟩ := h.access a hport hlive
    refine ((hagree.records hidle).handleOutcome ((hagree.slot _).trans hslot) (by rw [hwait]; rfl) (fun b hb => ?_) _).1
    rw [hagree.port] at hb; cases hb
  · exact hagree.records hidle

section Striding

variable {r : Stride} {sl sl' : Slot} {v : Option Slot}

/-- What is left of the engine when its stride has completed: the slot the stride was made for, alone. -/
theorem State.Records.strideDone (h : s.Records) (hport : s.port = .stride r) (hslot : s.slot r.owner = some sl)
    (hin : sl.state.inEngine = true) (ht : State.Agrees { s with port := .idle } t) :
    (∀ j, r.owner ≠ j → t.runs j = false ∧ t.stops j = false) ∧ t.stride = none ∧ t.port = .idle := by
  obtain ⟨hother, hstride⟩ := h.engine.striding hport hslot hin
  refine ⟨fun j hj => ?_, ht.stride.trans hstride, ht.port⟩
  have hj' := hother j (Ne.symm hj)
  have hslots : t.slot j = s.slot j := ht.slot j
  rw [Bool.or_eq_false_iff] at hj'
  simpa only [State.runs, State.stops, hslots] using hj'

/-- A change of the engine's slot after its stride has completed, to a record outside the engine. -/
theorem State.Engine.leaves {i : SlotId} {u : State} (hslot : ∀ j, u.slot j = if i = j then v else t.slot j)
    (hother : ∀ j, i ≠ j → t.runs j = false ∧ t.stops j = false) (hv : ∀ x, v = some x → x.state.inEngine = false)
    (hstride : u.stride = none) (hport : u.port = .idle) : u.Engine := by
  refine State.Engine.of_idle (fun j => ?_) hstride fun r hr => by rw [hport] at hr; cases hr
  rw [State.runs_change hslot, State.stops_change hslot]
  split
  · cases v with
    | none => rfl
    | some x =>
      have := hv x rfl
      cases hs : x.state <;> simp_all [SlotState.inEngine]
  · rename_i hj
    rw [(hother j hj).1, (hother j hj).2]; rfl

theorem State.accessFits_idle {u : State} (hport : u.port = .idle) : u.AccessFits := fun a ha => by
  rw [hport] at ha; cases ha

/-- The engine's slot takes a new record, or is FREE, after its stride has completed. -/
theorem State.Records.setDone (h : s.Records) (hslot : s.slot r.owner = some sl)
    (ht : State.Agrees { s with port := .idle } t) (hv : slotFollows (some sl) v) (hreserved : reservedBy v ≤ reservedBy (some sl))
    {u : State} (hlinks : u.links = (t.setSlot r.owner v).links) (hadm : u.admissions = t.admissions) (hengine : u.Engine)
    (haccess : u.AccessFits) : u.Records := by
  have hlink : ∀ m, u.link m = (t.setSlot r.owner v).link m := fun m => by simp only [State.link, hlinks]
  have hsame : ∀ m, (s.link m).sameLines (u.link m) ∧ (u.link m).replies = (s.link m).replies := fun m => by
    obtain ⟨h1, _, h3, h4, h5⟩ := ht.link m
    rw [hlink, State.setSlot, State.link_updLink]
    split <;> exact ⟨⟨h1, h4, h5⟩, h3⟩
  refine h.change (i := r.owner) (v := v) (fun j => ?_) (hslot ▸ hv) (fun m => (hsame m).1) (hadm.trans ht.admissions) hengine haccess
    (fun m _ => (hsame m).2) ?_ fun _ => by rw [(hsame _).2]
  · rw [State.slot_of_links hlinks, State.slot_setSlot]
    split
    · rfl
    · exact ht.slot j
  · rw [(hsame _).2, hslot]; omega

theorem State.Records.completeStopping (h : s.Records) (hport : s.port = .stride r) (hslot : s.slot r.owner = some sl)
    (hstate : sl.state = .stopping) : (s.completeStopping r sl).Records := by
  have ht := State.agrees_accessDone (s := s) (r.run sl s.store).store
    (countFault (r.run sl s.store).fault.isSome s.faults) (r.report sl (r.run sl s.store))
  obtain ⟨hother, hstride, hidle⟩ := h.strideDone hport hslot (by rw [hstate]; rfl) ht
  exact h.setDone hslot ht (slotFollows_none _) (Nat.zero_le _) rfl rfl
    (State.Engine.leaves (fun j => State.slot_setSlot _ _ j _) hother (fun _ hx => nomatch hx) hstride hidle)
    (State.accessFits_idle hidle)

theorem State.Records.completeStride (h : s.Records) (hport : s.port = .stride r) (hslot : s.slot r.owner = some sl)
    (hstate : sl.state = .running) : (s.completeStride r sl).Records := by
  have ht := State.agrees_accessDone (s := s) (r.run sl s.store).store
    (countFault (r.run sl s.store).fault.isSome s.faults) (r.report sl (r.run sl s.store))
  obtain ⟨hother, hstride, hidle⟩ := h.strideDone hport hslot (by rw [hstate]; rfl) ht
  unfold State.completeStride
  dsimp only
  generalize hrun : r.run sl s.store = run at ht hother hstride hidle ⊢
  generalize State.handReport { s with
    store := run.store, port := .idle, faults := countFault run.fault.isSome s.faults } (r.report sl run) = t
    at ht hother hstride hidle ⊢
  generalize hsl' : { sl with cursor := sl.cursor.advance run } = sl'
  have hfields : sl'.tag = sl.tag ∧ sl'.admission = sl.admission ∧ sl'.state = sl.state ∧ sl'.reserved = sl.reserved := by
    subst hsl'; exact ⟨rfl, rfl, rfl, rfl⟩
  have hform : sl'.consistent = true := by
    have := h.slots _ sl hslot
    subst hsl'; exact this
  obtain ⟨htag, hadm, hst, hres⟩ := hfields
  have hset : ∀ j, (t.setSlot r.owner (some sl')).slot j = if r.owner = j then some sl' else t.slot j := fun j =>
    State.slot_setSlot _ _ j _
  have outcome (o : Outcome) : ((t.setSlot r.owner (some sl')).handleOutcome r.owner o).Records := by
    have hof : s.OutcomeOf (t.setSlot r.owner (some sl')) r.owner sl sl' :=
      { records := h, slot := hslot, notStopping := by rw [hstate]; exact nofun
        set := fun j => by
          rw [hset]
          split
          · rfl
          · exact ht.slot j
        form := hform, tag := htag, admission := hadm, state := hst, reserved := hres
        status := fun m => (State.status_setSlot _ _ m).trans (ht.status m)
        lines := fun m => by
          obtain ⟨h1, _, _, h4, h5⟩ := ht.link m
          rw [State.setSlot, State.link_updLink]
          split <;> exact ⟨h1, h4, h5⟩
        replies := fun m => by
          obtain ⟨_, _, h3, _⟩ := ht.link m
          rw [State.setSlot, State.link_updLink]
          split <;> exact h3
        admissions := ht.admissions }
    have honly := State.linksOnly_handleOutcome (s := t.setSlot r.owner (some sl')) r.owner o
    have hend : ∀ j, ((t.setSlot r.owner (some sl')).handleOutcome r.owner o).slot j =
        if r.owner = j then sl'.afterOutcome ((t.setSlot r.owner (some sl')).link r.owner.link).hold o else t.slot j := fun j => by
      rw [hof.slot_handled]
      split
      · rfl
      · exact (ht.slot j).symm
    exact (hof.handled o (State.Engine.leaves hend hother (fun x hx => Slot.afterOutcome_outside hx)
      (honly.stride_eq.trans hstride) (honly.port_eq.trans hidle)) (State.accessFits_idle (honly.port_eq.trans hidle))).1
  unfold State.settleStride
  split
  · exact outcome _
  · split
    · exact outcome _
    · split
      · exact outcome _
      · rename_i hmark
        split
        · have hsus : slotFollows (some sl) (some { sl' with state := .suspended }) := by
            rintro _ ⟨⟩
            exact ⟨Slot.consistent_suspended (hst.trans hstate) (by simpa using hmark) hform, sl, rfl, htag, hadm,
              fun e => by rw [hstate] at e; cases e⟩
          have hlinks : ((t.setSlot r.owner (some sl')).setSlot r.owner (some { sl' with state := .suspended })).links =
              (t.setSlot r.owner (some { sl' with state := .suspended })).links := by
            refine congrArg State.links ?_
            simp only [State.setSlot, State.updLink_updLink, Link.setSlot, Vector.set_set]
          refine h.setDone hslot ht hsus (by simp [reservedBy, hres]) hlinks rfl
            (State.Engine.leaves (i := r.owner) (t := t) (v := some { sl' with state := .suspended }) (fun j => ?_) hother ?_
              hstride hidle) (State.accessFits_idle hidle)
          · rw [State.slot_setSlot, hset]
            split <;> rfl
          · rintro _ ⟨⟩; rfl
        · have hsame : slotFollows (some sl) (some sl') := by
            rintro _ ⟨⟩
            exact ⟨hform, sl, rfl, htag, hadm, fun e => by rw [hstate] at e; cases e⟩
          refine h.setDone hslot ht hsame (by simp [reservedBy, hres]) rfl rfl
            (State.Engine.of_asked (i := r.owner) (r := nextStride r.owner sl') (fun j => ?_) (fun j => ?_) rfl rfl
              fun x hx => ?_) (State.accessFits_idle hidle)
          · refine (State.runs_change (s := t) hset j).trans ?_
            split
            · simp [*]
            · simp [*, (hother j ‹_›).1]
          · refine (State.stops_change (s := t) hset j).trans ?_
            split
            · simp [*]
            · exact (hother j ‹_›).2
          · have : Port.stride x = .idle := hx.symm.trans hidle
            cases this

end Striding

/-! ### Power and the reset pin -/

/-- A part that has just been reset. -/
theorem State.records_atReset (hlink : ∀ n, ∃ b, s.link n = Link.atReset n b) (hstride : s.stride = none)
    (hport : s.port = .idle ∨ s.port = .clear) : s.Records := by
  have hslot : ∀ i, s.slot i = none := fun i => by
    obtain ⟨b, hb⟩ := hlink i.link
    rw [State.slot, hb]
    simp [Link.slot, Link.atReset]
  have hstatus : ∀ n, (s.link n).status = .closed := fun n => by
    obtain ⟨b, hb⟩ := hlink n
    rw [hb]; rfl
  refine ⟨fun i sl hi => ?_, State.Engine.of_idle (fun i => ?_) hstride fun r hr => ?_, fun a ha => ?_, fun i sl _ hi => ?_,
    fun n m r hn => ?_, fun n => ?_, fun n => ?_, fun i sl hi => ?_, fun i j sl sl' hi => ?_⟩
  · rw [hslot] at hi; cases hi
  · simp [State.runs, State.stops, hslot]
  · rcases hport with hp | hp <;> rw [hp] at hr <;> cases hr
  · rcases hport with hp | hp <;> rw [hp] at ha <;> cases ha
  · rw [hslot] at hi; cases hi
  · rw [hstatus] at hn; cases hn
  · have hreserved : (s.link n).reservedPlaces = 0 := by
      rw [State.reservedPlaces_eq, List.countP_eq_zero]
      intro k _
      simp [hslot]
    have hreplies : (s.link n).replies = [] := by
      obtain ⟨b, hb⟩ := hlink n
      rw [hb]; rfl
    refine ⟨by simp [Link.placesTaken, hreserved, hreplies], fun t ht => ?_, fun _ => by simp [hreplies]⟩
    rw [hstatus] at ht; cases ht
  · obtain ⟨b, hb⟩ := hlink n
    rw [hb]
    exact ⟨fun _ => rfl, fun hh => nomatch hh⟩
  · rw [hslot] at hi; cases hi
  · rw [hslot] at hi; cases hi

theorem State.link_cleared (n : LinkId) : s.cleared.link n = Link.atReset n (s.link n).hostHold := by
  simp [State.cleared, State.link]

theorem State.Records.openService (h : s.Records) : s.openService.Records := by
  have hlink : ∀ n, s.openService.link n = (s.link n).openService (if s.opened then .pin else .power) := fun n => by
    unfold State.openService
    exact State.link_mapLinks s n fun _ l => l.openService (if s.opened then .pin else .power)
  have hstatus : ∀ n, (s.openService.link n).status = .opened := fun n => by rw [hlink]; simp [Link.openService]
  refine h.of_links (fun i => State.slot_openService i) rfl rfl h.numbered (fun n hn => ?_) (fun n m r hn => ?_) (fun n => ?_)
    fun n => (h.lines n).congr ?_ ?_
  · simp [Link.isResetting, hstatus] at hn
  · rw [hstatus] at hn; cases hn
  · refine Link.listFits_opened (hstatus n) ?_
    have hreserved := State.reservedPlaces_congr (t := s.openService) (s := s) (fun i => State.slot_openService i) n
    have hreplies : (s.openService.link n).replies = (s.link n).replies := by rw [hlink]; simp [Link.openService]
    have := (h.lists n).all
    simpa only [Link.placesTaken, hreserved, hreplies] using this
  · rw [hlink]; simp [Link.openService]
  · rw [hlink]; simp [Link.openService]

/-! ### Every step -/

theorem Link.agrees_discardFrame (l : Link) (why : BadFrame) : l.agrees (l.discardFrame why) := by
  simp [Link.agrees, Link.discardFrame]

theorem Link.agrees_seeLow (l : Link) : l.agrees l.seeLow := by
  unfold Link.seeLow
  split <;> exact Link.agrees_refl l

theorem Link.agrees_endFrame (checked : Except BadFrame Frame) (l : Link) : l.agrees (l.endFrame checked) := by
  unfold Link.endFrame
  split
  · split
    · exact Link.agrees_refl l
    · exact Link.agrees_discardFrame { l with receiver := .idle } _
  · exact Link.agrees_discardFrame { l with receiver := .idle } _
  · exact l.agrees_seeLow
  · exact Link.agrees_refl l

theorem Link.agrees_beginFrame (l : Link) : l.agrees l.beginFrame := by
  unfold Link.beginFrame
  split <;> exact Link.agrees_refl l

theorem State.kept_records : State.Kept fun s => s.Records where
  withPending _ h := h.of_same rfl rfl rfl rfl
  freeCount h := h.of_same rfl rfl rfl rfl
  completeResets h := h.completeResets
  dispatch h := h.dispatch
  portChoose h := h.portChoose
  leaveInbox {_ _ _ rest} _ h :=
    (State.agrees_updLink (f := fun l => { l with inbox := rest }) fun l => Link.agrees_refl l).records h
  takeFrame f hable h := (h.taking hable).takeFrame f
  arbitrate h := h.arbitrate
  ticks k h := h.ticks k
  budgetExpires hslot ht h := h.budgetExpires hslot ht
  holdExpires hslot ht h := h.holdExpires hslot ht
  beginFrame _ h := (State.agrees_updLink fun l => l.agrees_beginFrame).records h
  endFrame _ checked h := (State.agrees_updLink fun l => l.agrees_endFrame checked).records h
  seeLow _ h := (State.agrees_updLink fun l => l.agrees_seeLow).records h
  hostHold _ b h := (State.agrees_updLink (f := fun l => { l with hostHold := b }) fun l => Link.agrees_refl l).records h
  endTransmission n h := h.endTransmission n
  completeDirect hport _ h := h.completeDirect hport
  completeStride hport hslot hstate _ h := h.completeStride hport hslot hstate
  completeStopping hport hslot hstate _ h := h.completeStopping hport hslot hstate
  upset _ _ h := h.of_same rfl rfl rfl rfl
  powerOn _ := State.records_atReset (fun n => ⟨_, State.link_cleared n⟩) rfl (.inr rfl)
  clearStore hport h := h.of_port rfl rfl
    (h.engine.congr (fun _ => rfl) (fun _ => rfl) rfl fun i => by simp [State.strideInProgress, hport])
    (State.accessFits_idle rfl)
  rstn _ h := h.of_same rfl rfl rfl rfl
  openService h := h.openService
  rstnFall _ _ _ _ := State.records_atReset (fun n => ⟨_, State.link_cleared n⟩) rfl (.inl rfl)

end Sys2Proof.Machine

namespace Sys2Proof.Proofs

open Sys2Proof Sys2Proof.Machine

/-- Settles O58: the two executable predicates are `State.Records`, which every change of an event keeps. -/
theorem recordsStayConsistent : Obligations.RecordsStayConsistent := by
  intro s t hnum hcon he
  exact State.records_iff.mpr (State.kept_records.step (State.records_iff.mp ⟨hnum, hcon⟩) he)

end Sys2Proof.Proofs
end

section
/-! PROOFS. What follows in an event where no frame waits (log 11), the state after reset, and the steps on an empty queue. -/

namespace Sys2Proof.Machine

variable {s t : State}

/-! ### What settling changes of a link -/

/-- `l'` is `l` but for what follows in an event: the link's state, its slots, lists, transmitter and arbiter. -/
def Link.settlesTo (l l' : Link) : Prop :=
  l' = { l with
    status := l'.status, slots := l'.slots, replies := l'.replies, notices := l'.notices, lost := l'.lost
    transmitter := l'.transmitter, outLine := l'.outLine, streak := l'.streak }

theorem Link.settlesTo_refl (l : Link) : l.settlesTo l := rfl

theorem Link.settlesTo.trans {l l' l'' : Link} (h : l.settlesTo l') (h' : l'.settlesTo l'') : l.settlesTo l'' := by
  unfold Link.settlesTo at h h' ⊢
  rw [h] at h'
  exact h'

theorem Link.settlesTo.inbox_eq {l l' : Link} (h : l.settlesTo l') : l'.inbox = l.inbox := by
  unfold Link.settlesTo at h
  rw [h]

theorem Link.settlesTo_queueNotice (l : Link) (m : Notice) : l.settlesTo (l.queueNotice m) := by
  unfold Link.queueNotice
  split
  · rfl
  · split <;> rfl

theorem Link.settlesTo_reopen {l : Link} (h : l.inbox = []) : l.settlesTo l.reopen := by
  unfold Link.settlesTo Link.reopen
  rw [h]

theorem Link.settlesTo_placeReply (l : Link) (r : Reply) : l.settlesTo (l.placeReply r) := rfl

theorem Link.settlesTo_arbitrate (l : Link) : l.settlesTo l.arbitrate := by
  unfold Link.arbitrate
  split_ifs <;> rfl

/-- What settling does to the links whose Inbound Buffers are empty. -/
def State.settlesTo (s t : State) : Prop := ∀ n, (s.link n).inbox = [] → (s.link n).settlesTo (t.link n)

theorem State.settlesTo.trans {u : State} (h : s.settlesTo t) (h' : t.settlesTo u) : s.settlesTo u := fun n hn =>
  (h n hn).trans (h' n ((h n hn).inbox_eq.trans hn))

theorem State.settlesTo_of_links (h : t.links = s.links) : s.settlesTo t := fun n _ => by
  have : t.link n = s.link n := by simp only [State.link, h]
  rw [this]; exact Link.settlesTo_refl _

theorem State.settlesTo_completeLinkreset (r n : LinkId) (tag : Tag) : s.settlesTo (s.completeLinkreset r n tag) := fun m hm => by
  rw [State.link_completeLinkreset]
  split_ifs with h1 h2 h3
  · subst h1
    exact ((Link.settlesTo_reopen hm).trans (Link.settlesTo_placeReply _ _)).trans (Link.settlesTo_queueNotice _ _)
  · subst h1
    exact (Link.settlesTo_reopen hm).trans (Link.settlesTo_queueNotice _ _)
  · rw [h3.1]; rfl
  · exact Link.settlesTo_refl _

theorem State.settlesTo_completeResets : s.settlesTo s.completeResets := by
  have finish (s : State) (r : LinkId) : s.settlesTo (s.finishLinkreset r) := by
    rcases State.finishLinkreset_cases (s := s) r with he | ⟨n, tag, _, _, he⟩ <;> rw [he]
    · exact State.settlesTo_of_links rfl
    · exact State.settlesTo_completeLinkreset r n tag
  have fold : ∀ (rs : List LinkId) (s : State), s.settlesTo (rs.foldl State.finishLinkreset s) := by
    intro rs
    induction rs with
    | nil => exact fun s => State.settlesTo_of_links rfl
    | cons r rs ih => exact fun s => (finish s r).trans (ih _)
  unfold State.completeResets
  split
  · split
    · exact State.settlesTo_of_links rfl
    · rename_i n _ _
      intro m hm
      have hlink : (s.completeRestart n).link m = (s.link m).reopen.queueNotice (.restarted .restart n) := by
        unfold State.completeRestart
        exact State.link_mapLinks s m fun _ l => l.reopen.queueNotice (.restarted .restart n)
      rw [hlink]
      exact (Link.settlesTo_reopen hm).trans (Link.settlesTo_queueNotice _ _)
  · exact fold linkIds s

theorem State.settlesTo_dispatch : s.settlesTo s.dispatch := by
  rcases s.dispatch_cases with he | ⟨i, sl, _, _, _, _, he⟩ <;> rw [he]
  · exact State.settlesTo_of_links rfl
  · intro n _
    show (s.link n).settlesTo ((s.setSlot i _).link n)
    rw [State.setSlot, State.link_updLink]
    split
    · exact Link.settlesTo_refl _
    · exact Link.settlesTo_refl _

theorem State.portChoose_links : s.portChoose.links = s.links := by
  rcases s.portChoose_cases with he | ⟨r, _, _, he⟩ | ⟨i, sl, _, _, _, _, he⟩ <;> rw [he] <;> rfl

theorem State.settlesTo_react : s.settlesTo s.react :=
  (State.settlesTo_completeResets.trans State.settlesTo_dispatch).trans (State.settlesTo_of_links State.portChoose_links)

theorem State.settlesTo_settle (h : ∀ n, (s.link n).inbox = []) : s.settlesTo s.settle := by
  rw [State.settle_of_empty h]
  refine State.settlesTo_react.trans fun n _ => ?_
  rw [State.link_arbitrate]
  exact Link.settlesTo_arbitrate _

/-- A slot stays, or a waiting block operation is set RUNNING. -/
def slotSettles (v w : Option Slot) : Prop :=
  w = v ∨ ∃ sl, v = some sl ∧ (sl.state = .queued ∨ sl.state = .suspended) ∧ w = some { sl with state := .running }

theorem State.slot_dispatch (i : SlotId) : slotSettles (s.slot i) (s.dispatch.slot i) := by
  rcases s.dispatch_cases with he | ⟨j, sl, hslot, hstate, _, _, he⟩ <;> rw [he]
  · exact .inl rfl
  · rw [State.slot_startOperation]
    split
    · rename_i hij; subst hij
      exact .inr ⟨sl, hslot, hstate, rfl⟩
    · exact .inl rfl

theorem State.slot_react (i : SlotId) : slotSettles (s.slot i) (s.react.slot i) := by
  have := State.slot_dispatch (s := s.completeResets) i
  rw [State.slot_completeResets] at this
  rw [State.react, State.slot_portChoose]
  exact this

theorem State.slot_settle (h : ∀ n, (s.link n).inbox = []) (i : SlotId) : slotSettles (s.slot i) (s.settle.slot i) := by
  rw [State.settle_of_empty h, State.slot_arbitrate]
  exact State.slot_react i

theorem State.reacted_settle (h : ∀ n, (s.link n).inbox = []) : s.reacted s.settle := by
  rw [State.settle_of_empty h]
  exact State.reacted_react.trans State.reacted_arbitrate

/-! ### Steps on an empty queue -/

theorem State.mem_dueSlots {i : SlotId} {sl : Slot} :
    (i, sl) ∈ s.dueSlots ↔ s.slot i = some sl ∧ (sl.budgetTimer = some 0 ∨ sl.holdTimer = some 0) := by
  rw [State.dueSlots, List.mem_filter, State.mem_busySlots]
  simp [Slot.due]

theorem step_empty (h : s.pending = []) : step s = .next s.timebase := by
  unfold step; rw [h]

/-- With no frame waiting and no timer run out, a tick. -/
theorem State.timebase_tick (hw : s.frameWaits = false) (hd : s.dueSlots = []) : s.timebase = s.tick := by
  unfold State.timebase
  simp [hw, hd]

/-- With no frame waiting, the expiry of one of the timers that have run out. -/
theorem State.timebase_expires (hw : s.frameWaits = false) (hd : s.dueSlots ≠ []) :
    ∃ i sl, (i, sl) ∈ s.dueSlots ∧ s.timebase = State.expire { s with freeCount := s.freeCount + 1 } i sl := by
  have hlt : Config.dueChoice s.freeCount % s.dueSlots.length < s.dueSlots.length :=
    Nat.mod_lt _ (List.length_pos_iff.mpr hd)
  refine ⟨_, _, List.getElem_mem hlt, ?_⟩
  unfold State.timebase
  simp [hw, List.getElem?_eq_getElem hlt]

/-- The timers of a slot have run out, or are gone: nothing more passes. -/
theorem State.passUntil_zero {timer : Slot → Option Nat} {i : SlotId} (h : (s.slot i).bind timer = some 0) (fuel : Nat) :
    s.passUntil timer i fuel = s := by
  cases fuel with
  | zero => rfl
  | succ fuel => simp [State.passUntil, h]

theorem State.slot_tick_iterate (k : Nat) (i : SlotId) : (State.tick^[k] s).slot i = (s.slot i).map fun sl => sl.ticks k := by
  cases k with
  | zero =>
    have : (fun sl : Slot => sl.ticks 0) = id := by
      funext sl
      simp [Slot.ticks]
    simp [this]
  | succ k => rw [State.tick_iterate, State.ticks_slot]

end Sys2Proof.Machine

namespace Sys2Proof.Proofs

open Sys2Proof Sys2Proof.Machine

/-- Settles O54: settling where no frame waits is `react` and `arbitrate`, and each of their parts keeps what the statement
names. -/
theorem settlingLeavesTheRest : Obligations.SettlingLeavesTheRest := by
  intro s hempty
  have h := State.inboxesEmpty_iff.mp hempty
  exact ⟨fun n => State.settlesTo_settle h n (h n), State.slot_settle h, State.reacted_settle h⟩

/-- Settles O1: `step` is defined so. -/
theorem stepRunsTheFrontCommand : Obligations.StepRunsTheFrontCommand := by
  intro c rest s h
  unfold step
  rw [h]

/-- Settles O2: by the cases of `State.timebase`; k ticks are one change by k (`State.tick_iterate`). -/
theorem timebaseTicksAndExpires : Obligations.TimebaseTicksAndExpires := by
  refine ⟨fun s hp hw hd => by rw [step_empty hp, State.timebase_tick hw hd], fun s k => ⟨?_, ?_, ?_⟩, ?_, ?_⟩
  · exact fun i => State.slot_tick_iterate k i
  · intro n
    cases k with
    | zero => simp
    | succ k =>
      rw [State.tick_iterate, State.ticks_link]
      unfold Link.ticks OutLine.tick
      by_cases hg : (s.link n).outLine = .gap <;> simp [hg]
  · cases k with
    | zero => rfl
    | succ k => rw [State.tick_iterate]; rfl
  · intro s hp hw hd
    obtain ⟨i, sl, hmem, he⟩ := State.timebase_expires hw hd
    obtain ⟨hslot, hdue⟩ := State.mem_dueSlots.mp hmem
    refine ⟨i, sl, hslot, by tauto, ?_⟩
    rw [step_empty hp, he, State.expire]
    by_cases hb : sl.budgetTimer = some 0
    · rw [if_pos hb, if_pos hb]
      have hzero : ((State.slot { s with freeCount := s.freeCount + 1 } i).bind fun sl => sl.budgetTimer) = some 0 := by
        show (s.slot i).bind _ = _
        rw [hslot]; exact hb
      show _ = Host.Outcome.next _
      rw [State.passUntil_zero hzero]
    · rw [if_neg hb, if_neg hb]
      have hzero : ((State.slot { s with freeCount := s.freeCount + 1 } i).bind fun sl => sl.holdTimer) = some 0 := by
        show (s.slot i).bind _ = _
        rw [hslot]; exact hdue.resolve_left hb
      show _ = Host.Outcome.next _
      rw [State.passUntil_zero hzero]
  · intro s hp hw
    rw [step_empty hp, State.timebase, if_pos hw]

end Sys2Proof.Proofs
end

section
/-! PROOFS. The expiry rows (R13, R14, R20, R21; log 9): where nothing runs out before the timer its ticks pass; else the part
does what it does on its own until the timer has run out or is gone. -/

namespace Sys2Proof.Machine

variable {s t : State}

theorem State.updLink_congr {n : LinkId} {f g : Link → Link} (h : f (s.link n) = g (s.link n)) :
    s.updLink n f = s.updLink n g := by
  rw [State.updLink, h, State.updLink]

theorem State.link_tick_iterate (k : Nat) (n : LinkId) :
    ((State.tick^[k] s).link n).status = (s.link n).status ∧ ((State.tick^[k] s).link n).inbox = (s.link n).inbox := by
  cases k with
  | zero => exact ⟨rfl, rfl⟩
  | succ k => rw [State.tick_iterate, State.ticks_link]; exact ⟨rfl, rfl⟩

/-! ### The timers of the part, counted -/

/-- The timers that run for a slot. -/
def timersOf (v : Option Slot) : Nat :=
  match v with
  | none => 0
  | some sl => sl.budgetTimer.toList.length + sl.holdTimer.toList.length

/-- The timers that run in the part. -/
def State.timers (s : State) : Nat := (allSlots.map fun i => timersOf (s.slot i)).sum

theorem timersOf_le_two (v : Option Slot) : timersOf v ≤ 2 := by
  cases v with
  | none => exact Nat.zero_le 2
  | some sl =>
    have bound (o : Option Nat) : o.toList.length ≤ 1 := by cases o <;> simp
    have := bound sl.budgetTimer
    have := bound sl.holdTimer
    simp only [timersOf]; omega

theorem State.timers_le (s : State) : s.timers ≤ 64 := by
  have h : ∀ x ∈ allSlots.map fun i => timersOf (s.slot i), x ≤ 2 := by
    intro x hx
    obtain ⟨i, _, rfl⟩ := List.mem_map.mp hx
    exact timersOf_le_two _
  have hlen : allSlots.length = 32 := by decide
  have := List.sum_le_card_nsmul _ 2 h
  rwa [List.length_map, hlen] at this

theorem timersOf_ticks (v : Option Slot) (k : Nat) : timersOf (v.map fun sl => sl.ticks k) = timersOf v := by
  cases v with
  | none => rfl
  | some sl =>
    simp only [timersOf, Option.map_some, Slot.ticks]
    cases sl.budgetTimer <;> cases sl.holdTimer <;> rfl

theorem timersOf_settles {v w : Option Slot} (h : slotSettles v w) : timersOf w = timersOf v := by
  rcases h with rfl | ⟨sl, rfl, _, rfl⟩ <;> rfl

/-- A state with a timer less at slot i, and no timer more elsewhere, has fewer timers. -/
theorem State.timers_lt {i : SlotId} (hi : timersOf (t.slot i) < timersOf (s.slot i))
    (h : ∀ j, i ≠ j → timersOf (t.slot j) = timersOf (s.slot j)) : t.timers < s.timers := by
  refine List.sum_lt_sum _ _ (fun j _ => ?_) ⟨i, mem_allSlots i, hi⟩
  by_cases hj : i = j
  · subst hj; exact hi.le
  · exact (h j hj).le

/-- An expiry leaves the Inbound Buffers as empty as they were, and a timer less. -/
theorem State.expire_due {i : SlotId} {sl : Slot} (hempty : ∀ n, (s.link n).inbox = []) (hslot : s.slot i = some sl)
    (hdue : sl.budgetTimer = some 0 ∨ sl.holdTimer = some 0) :
    (∀ n, ((s.expire i sl).link n).inbox = []) ∧ (s.expire i sl).timers < s.timers := by
  have settled {u : State} (hu : ∀ n, (u.link n).inbox = []) (hi : timersOf (u.slot i) < timersOf (s.slot i))
      (hj : ∀ j, i ≠ j → u.slot j = s.slot j) :
      (∀ n, (u.settle.link n).inbox = []) ∧ u.settle.timers < s.timers := by
    refine ⟨fun n => ((State.settlesTo_settle hu n (hu n)).inbox_eq).trans (hu n), State.timers_lt (i := i) ?_ fun j hij => ?_⟩
    · rw [timersOf_settles (State.slot_settle hu i)]; exact hi
    · rw [timersOf_settles (State.slot_settle hu j), hj j hij]
  unfold State.expire
  split
  · rename_i hb
    rw [State.budgetExpiry, hslot]
    simp only [hb, Option.isSome_some, if_true]
    refine settled (fun n => ?_) ?_ fun j hij => ?_
    · unfold State.budgetExpires
      rw [State.link_updLink]
      split <;> exact hempty n
    · rw [State.slot_budgetExpires, if_pos rfl, hslot]
      simp [timersOf, Slot.deferred, hb]
    · rw [State.slot_budgetExpires, if_neg hij]
  · rename_i hb
    have hh := hdue.resolve_left hb
    rw [State.holdExpiry, hslot]
    simp only [hh, Option.isSome_some, if_true]
    refine settled (fun n => ?_) ?_ fun j hij => ?_
    · unfold State.holdExpires
      rw [State.link_updLink]
      split
      · simp [Link.dropHeld, Link.setSlot, hempty]
      · exact hempty n
    · rw [State.slot_holdExpires, if_pos rfl, hslot]
      simp [timersOf, hh]
    · rw [State.slot_holdExpires, if_neg hij]

theorem State.frameWaits_of_empty (hempty : ∀ n, (s.link n).inbox = []) : s.frameWaits = false := by
  simp [State.frameWaits, State.intakeWaits, hempty]

/-! ### Ticks in which nothing happens -/

/-- While every timer has more ticks left than have passed, the part alone does nothing but tick. -/
theorem State.timebase_iterate (hempty : ∀ n, (s.link n).inbox = []) :
    ∀ {k : Nat}, (∀ u ∈ s.timersLeft, k ≤ u) → State.timebase^[k] s = State.tick^[k] s
  | 0, _ => rfl
  | k + 1, h => by
    rw [Function.iterate_succ_apply', Function.iterate_succ_apply',
      State.timebase_iterate hempty fun u hu => (Nat.le_succ k).trans (h u hu)]
    refine State.timebase_tick (State.frameWaits_of_empty fun n => ((State.link_tick_iterate k n).2).trans (hempty n)) ?_
    rw [List.eq_nil_iff_forall_not_mem]
    rintro ⟨i, sl⟩ hmem
    obtain ⟨hslot, hdue⟩ := State.mem_dueSlots.mp hmem
    rw [State.slot_tick_iterate, Option.map_eq_some_iff] at hslot
    obtain ⟨old, hold, rfl⟩ := hslot
    have runsOut {o : Option Nat} (ho : o.map (fun t => t - k) = some 0) : ∃ u, o = some u ∧ u ≤ k := by
      obtain ⟨u, rfl, hu⟩ := Option.map_eq_some_iff.mp ho
      exact ⟨u, rfl, by omega⟩
    rcases hdue with hb | hh
    · obtain ⟨u, hu, hle⟩ := runsOut hb
      have := h u (State.mem_timersLeft.mpr ⟨i, old, hold, .inl hu⟩)
      omega
    · obtain ⟨u, hu, hle⟩ := runsOut hh
      have := h u (State.mem_timersLeft.mpr ⟨i, old, hold, .inr hu⟩)
      omega

theorem foldl_min_le_of_mem : ∀ (l : List Nat) (t : Nat), l.foldl min t ≤ t ∧ (∀ u ∈ l, l.foldl min t ≤ u) ∧
    (l.foldl min t = t ∨ l.foldl min t ∈ l)
  | [], t => by simp
  | x :: l, t => by
    obtain ⟨h1, h2, h3⟩ := foldl_min_le_of_mem l (min t x)
    rw [List.foldl_cons]
    refine ⟨h1.trans (min_le_left t x), fun u hu => ?_, ?_⟩
    · rcases List.mem_cons.mp hu with rfl | hu
      · exact h1.trans (min_le_right t u)
      · exact h2 u hu
    · rcases h3 with h3 | h3
      · rw [h3]
        rcases min_choice t x with hm | hm <;> rw [hm]
        · exact .inl rfl
        · exact .inr (List.mem_cons_self ..)
      · exact .inr (List.mem_cons_of_mem _ h3)

/-- A timer of a slot that ticks: its budget timer, or its hold timer. -/
structure TimerOf (timer : Slot → Option Nat) : Prop where
  ticks : ∀ sl k u, timer sl = some u → timer (sl.ticks k) = some (u - k)
  runs : ∀ sl u, timer sl = some u → sl.budgetTimer = some u ∨ sl.holdTimer = some u

theorem timerOf_budget : TimerOf fun sl => sl.budgetTimer :=
  ⟨fun sl k u h => by simp [Slot.ticks, h], fun _ _ h => .inl h⟩

theorem timerOf_hold : TimerOf fun sl => sl.holdTimer :=
  ⟨fun sl k u h => by simp [Slot.ticks, h], fun _ _ h => .inr h⟩

/-- The passing ticks end, for `fuel` enough, after some number of the part's own steps, with the timer run out or gone: two
steps of `State.passUntil` at most for each timer, one to run it down and one for its expiry. -/
theorem State.passUntil_ends {timer : Slot → Option Nat} (ht : TimerOf timer) (i : SlotId) :
    ∀ (fuel : Nat) (s : State), (∀ n, (s.link n).inbox = []) →
      2 * s.timers + (if s.dueSlots = [] then 1 else 0) ≤ fuel →
      ∃ j, s.passUntil timer i fuel = State.timebase^[j] s ∧
        ∀ sl u, (State.timebase^[j] s).slot i = some sl → timer sl = some u → u = 0 := by
  intro fuel
  induction fuel with
  | zero =>
    intro s _ hfuel
    have hnone : s.timers = 0 := by omega
    have hdue : s.dueSlots ≠ [] := fun h => by simp [h] at hfuel
    obtain ⟨⟨k, sl⟩, hmem⟩ := List.exists_mem_of_ne_nil _ hdue
    obtain ⟨hslot, hor⟩ := State.mem_dueSlots.mp hmem
    have hpos : 0 < timersOf (s.slot k) := by
      rw [hslot]
      rcases hor with h | h <;> simp [timersOf, h]
    have := List.single_le_sum (fun _ _ => Nat.zero_le _) _
      (List.mem_map_of_mem (f := fun i => timersOf (s.slot i)) (mem_allSlots k))
    have hs : s.timers = (allSlots.map fun i => timersOf (s.slot i)).sum := rfl
    omega
  | succ fuel ih =>
    intro s hempty hfuel
    cases hbind : (s.slot i).bind timer with
    | none =>
      refine ⟨0, State.passUntil_none hbind _, fun sl u hsl hu => ?_⟩
      have hsl : s.slot i = some sl := hsl
      rw [hsl] at hbind
      rw [show timer sl = none from hbind] at hu; cases hu
    | some t =>
      cases t with
      | zero =>
        refine ⟨0, State.passUntil_zero hbind _, fun sl u hsl hu => ?_⟩
        have hsl : s.slot i = some sl := hsl
        rw [hsl] at hbind
        exact (Option.some.inj ((show timer sl = some 0 from hbind).symm.trans hu)).symm
      | succ t =>
        obtain ⟨sl, hslot, htimer⟩ := Option.bind_eq_some_iff.mp hbind
        have hw := State.frameWaits_of_empty hempty
        rw [State.passUntil, hbind]
        by_cases hd : s.dueSlots = []
        · -- the least timer runs down, in ticks in which nothing else happens
          obtain ⟨hle, hleast, hmem⟩ := foldl_min_le_of_mem s.timersLeft (t + 1)
          have hin : t + 1 ∈ s.timersLeft := State.mem_timersLeft.mpr ⟨i, sl, hslot, ht.runs sl _ htimer⟩
          simp only [hw, hd, List.isEmpty_nil, Bool.not_true, Bool.or_false, Bool.false_eq_true, if_false]
          generalize hm : s.timersLeft.foldl min (t + 1) = m at hle hleast hmem ⊢
          have hmem : m ∈ s.timersLeft := hmem.elim (fun h => h ▸ hin) id
          obtain ⟨k, slk, hslk, hk⟩ := State.mem_timersLeft.mp hmem
          have hpos : m ≠ 0 := by
            rintro rfl
            have : (k, slk) ∈ s.dueSlots := State.mem_dueSlots.mpr ⟨hslk, hk⟩
            rw [hd] at this; cases this
          obtain ⟨m, rfl⟩ := Nat.exists_eq_succ_of_ne_zero hpos
          rw [← State.tick_iterate, ← State.timebase_iterate hempty hleast]
          have htick : State.timebase^[m + 1] s = s.ticks (m + 1) := by
            rw [State.timebase_iterate hempty hleast, State.tick_iterate]
          have hempty' : ∀ n, ((State.timebase^[m + 1] s).link n).inbox = [] := fun n => by
            rw [htick, State.ticks_link]; exact hempty n
          have htimers : (State.timebase^[m + 1] s).timers = s.timers := by
            rw [htick]
            simp only [State.timers, State.ticks_slot, timersOf_ticks]
          have hdue : (State.timebase^[m + 1] s).dueSlots ≠ [] := by
            refine List.ne_nil_of_mem (a := (k, slk.ticks (m + 1))) (State.mem_dueSlots.mpr ⟨?_, ?_⟩)
            · rw [htick, State.ticks_slot, hslk]; rfl
            · rcases hk with h | h <;> simp [Slot.ticks, h]
          rw [if_pos hd] at hfuel
          obtain ⟨j, he, hend⟩ := ih _ hempty' (by rw [if_neg hdue, htimers]; omega)
          exact ⟨j + (m + 1), he.trans (Function.iterate_add_apply _ j (m + 1) s).symm, by rwa [Function.iterate_add_apply _ j]⟩
        · -- a timer that has run out expires
          have hcond : (s.frameWaits || !s.dueSlots.isEmpty) = true := by simp [hw, hd]
          simp only [hcond, if_true]
          obtain ⟨k, slk, hmem, he⟩ := State.timebase_expires hw hd
          obtain ⟨hslk, hor⟩ := State.mem_dueSlots.mp hmem
          obtain ⟨hempty', hlt⟩ := State.expire_due (s := { s with freeCount := s.freeCount + 1 }) hempty hslk hor
          rw [← he] at hempty' hlt
          have hlt : s.timebase.timers < s.timers := hlt
          obtain ⟨j, hj, hend⟩ := ih s.timebase hempty' (by split <;> omega)
          exact ⟨j + 1, hj, hend⟩

theorem State.passUntil_timebase {timer : Slot → Option Nat} (ht : TimerOf timer) (i : SlotId)
    (hempty : ∀ n, (s.link n).inbox = []) : ∃ j, s.passUntil timer i passFuel = State.timebase^[j] s ∧
      ∀ sl u, (State.timebase^[j] s).slot i = some sl → timer sl = some u → u = 0 := by
  refine State.passUntil_ends ht i passFuel s hempty ?_
  have := s.timers_le
  unfold passFuel
  split <;> omega

end Sys2Proof.Machine

namespace Sys2Proof.Proofs

open Sys2Proof Sys2Proof.Machine

/-- Settles O20: the ticks left pass as one run of the timebase (`State.passUntil_least`), and what others do before ends within
the fuel. -/
theorem budgetExpiryDefers : Obligations.BudgetExpiryDefers := by
  intro n k s
  refine ⟨fun sl t hslot htimer hw hleast => ?_, fun hempty => ?_, fun hnone => ?_⟩
  · show Host.Outcome.next _ = _
    have hpass := State.passUntil_least timerOf_budget.ticks hslot htimer hw hleast 150
    rw [show passFuel = 150 + 2 from rfl, hpass, State.budgetExpiry, State.slot_tick_iterate, hslot]
    simp only [Option.map_some, Slot.ticks, htimer, Option.isSome_some, if_true]
    rfl
  · obtain ⟨j, he, hend⟩ := State.passUntil_timebase timerOf_budget ⟨n, k⟩ (State.inboxesEmpty_iff.mp hempty)
    exact ⟨j, congrArg (fun u => Host.Outcome.next (State.budgetExpiry u ⟨n, k⟩)) he, hend⟩
  · have hbind : ((s.slot ⟨n, k⟩).bind fun sl => sl.budgetTimer) = none := by
      cases h : s.slot ⟨n, k⟩ with
      | none => rfl
      | some sl => exact hnone sl h
    show Host.Outcome.next _ = _
    rw [State.passUntil_none hbind, State.budgetExpiry]
    split
    · rfl
    · rw [hnone _ ‹_›]; rfl

/-- Settles O21: as for a budget, with the slot freed and DROPPED offered. -/
theorem holdExpiryDrops : Obligations.HoldExpiryDrops := by
  intro n k s
  refine ⟨fun sl t hslot htimer hw hopen hleast => ?_, fun hempty => ?_, fun hnone => ?_⟩
  · show Host.Outcome.next _ = _
    have hpass := State.passUntil_least timerOf_hold.ticks hslot htimer hw hleast 150
    rw [show passFuel = 150 + 2 from rfl, hpass, State.holdExpiry, State.slot_tick_iterate, hslot]
    simp only [Option.map_some, Slot.ticks, htimer, Option.isSome_some, if_true]
    refine congrArg (fun u => Host.Outcome.next (State.settle u)) (State.updLink_congr ?_)
    have hreset : ((State.tick^[t] s).link n).isResetting = false := by
      rw [← hopen]
      simp only [Link.isResetting, (State.link_tick_iterate t n).1]
    have hreset' : (((State.tick^[t] s).link n).setSlot k none).isResetting = false := hreset
    unfold Link.dropHeld Link.queueNotice
    rw [hreset']
    by_cases hfull : 16 ≤ ((State.tick^[t] s).link n).notices.length
    · have hfull' : noticeRoom ≤ (((State.tick^[t] s).link n).setSlot k none).notices.length := hfull
      simp only [hfull, hfull', if_true, Bool.false_eq_true, if_false]
      rfl
    · have hfull' : ¬ noticeRoom ≤ (((State.tick^[t] s).link n).setSlot k none).notices.length := hfull
      simp only [hfull, hfull', Bool.false_eq_true, if_false]
      rfl
  · obtain ⟨j, he, hend⟩ := State.passUntil_timebase timerOf_hold ⟨n, k⟩ (State.inboxesEmpty_iff.mp hempty)
    exact ⟨j, congrArg (fun u => Host.Outcome.next (State.holdExpiry u ⟨n, k⟩)) he, hend⟩
  · have hbind : ((s.slot ⟨n, k⟩).bind fun sl => sl.holdTimer) = none := by
      cases h : s.slot ⟨n, k⟩ with
      | none => rfl
      | some sl => exact hnone sl h
    show Host.Outcome.next _ = _
    rw [State.passUntil_none hbind, State.holdExpiry]
    split
    · rfl
    · rw [hnone _ ‹_›]; rfl

end Sys2Proof.Proofs
end

section
/-! PROOFS. Frames at a link, transmissions, and the arbiters (R155, R156, R160 to R168). -/

namespace Sys2Proof.Machine

variable {s t : State}

theorem Link.queueNotice_of_room {l : Link} {m : Notice} (hopen : l.isResetting = false) (hroom : l.notices.length < 16) :
    l.queueNotice m = { l with notices := l.notices ++ [m] } := by
  unfold Link.queueNotice noticeRoom
  rw [if_neg (by rw [hopen]; exact Bool.false_ne_true), if_neg (by omega)]

theorem receiveFrame_eq (f : Frame) : receiveFrame f = if f.payload.length ≤ 260 then .ok f else .error .long := by
  simp [receiveFrame, payloadFits]

theorem Link.endFrame_assembling {l : Link} (h : l.receiver = .assembling) (checked : Except BadFrame Frame) :
    l.endFrame checked = match checked with
      | .ok f => { l with receiver := .idle, inbox := l.inbox ++ [f] }
      | .error why => { l with receiver := .idle }.discardFrame why := by
  cases checked <;> simp only [Link.endFrame, h]

theorem Link.endFrame_skipping {l : Link} (h : l.receiver = .skipping) (checked : Except BadFrame Frame) :
    l.endFrame checked = { l with receiver := .idle }.discardFrame .overrun := by
  simp only [Link.endFrame, h]

theorem Link.endFrame_closed {l : Link} (h : l.receiver = .closed) (checked : Except BadFrame Frame) :
    l.endFrame checked = l.seeLow := by
  simp only [Link.endFrame, h]

theorem Link.endFrame_idle {l : Link} (h : l.receiver = .idle) (checked : Except BadFrame Frame) : l.endFrame checked = l := by
  simp only [Link.endFrame, h]

/-- A whole frame at a receiver that is IDLE. -/
theorem Link.receive_atIdle {l : Link} (h : l.receiver = .idle) (f : Frame) :
    l.beginFrame.endFrame (receiveFrame f) =
      if 2 ≤ l.inbox.length then { l with receiver := .idle }.discardFrame .overrun
      else if f.payload.length ≤ 260 then { l with receiver := .idle, inbox := l.inbox ++ [f] }
      else { l with receiver := .idle }.discardFrame .long := by
  rw [Link.beginFrame, if_pos h, receiveFrame_eq]
  by_cases hfull : 2 ≤ l.inbox.length
  · rw [if_pos hfull, if_neg (show ¬ l.inbox.length < inboxRoom from Nat.not_lt.mpr hfull), Link.endFrame_skipping rfl]
  · rw [if_neg hfull, if_pos (show l.inbox.length < inboxRoom from Nat.lt_of_not_le hfull), Link.endFrame_assembling rfl]
    by_cases hlen : f.payload.length ≤ 260
    · rw [if_pos hlen, if_pos hlen]
    · rw [if_neg hlen, if_neg hlen]

/-- The arrival of a whole frame, by the receiver's state (R162, R163, R166). -/
theorem Link.receive_eq (l : Link) (f : Frame) :
    l.receive f =
      if l.receiver = .closed ∧ l.status = .closed then l
      else if l.receiver = .skipping ∨ l.receiver ≠ .assembling ∧ 2 ≤ l.inbox.length then
        { l with receiver := .idle }.discardFrame .overrun
      else if f.payload.length ≤ 260 then { l with receiver := .idle, inbox := l.inbox ++ [f] }
      else { l with receiver := .idle }.discardFrame .long := by
  unfold Link.receive Link.seeLow
  cases hr : l.receiver with
  | closed =>
    by_cases hs : l.status = .closed
    · simp [hs, hr, Link.beginFrame, Link.endFrame, Link.seeLow]
    · simp only [hs, and_false, ne_eq, not_false_eq_true, and_self, if_true, if_false]
      rw [Link.receive_atIdle rfl]
      simp
  | idle =>
    simp only [reduceCtorEq, false_and, if_false]
    rw [Link.receive_atIdle hr]
    simp
  | assembling =>
    simp only [reduceCtorEq, false_and, if_false, Link.beginFrame, hr]
    rw [Link.endFrame_assembling hr, receiveFrame_eq]
    by_cases hlen : f.payload.length ≤ 260 <;> simp [hlen]
  | skipping =>
    simp only [reduceCtorEq, false_and, if_false, Link.beginFrame, hr]
    rw [Link.endFrame_skipping hr]
    simp

/-- A frame discarded, in the terms of R164, R151 and R152. -/
theorem Link.discardFrame_eq (l : Link) (why : BadFrame) :
    { l with receiver := .idle }.discardFrame why =
      if l.isResetting = true then { l with receiver := .idle, badFrames := min (l.badFrames + 1) 65535 }
      else if 16 ≤ l.notices.length then
        { l with receiver := .idle, badFrames := min (l.badFrames + 1) 65535, lost := min (l.lost + 1) 65535 }
      else
        { l with
          receiver := .idle
          badFrames := min (l.badFrames + 1) 65535
          notices := l.notices ++ [.badframe why (min (l.badFrames + 1) 65535)] } := rfl

end Sys2Proof.Machine

namespace Sys2Proof.Proofs

open Sys2Proof Sys2Proof.Machine

/-- Settles O8: a frame-carrying row is `State.deliver`, and `Link.receive_eq` says what arrives. -/
theorem frameArrives : Obligations.FrameArrives := by
  intro i n f s hi
  rw [exec_frame hi, State.deliver]
  refine congrArg (fun t => Host.Outcome.next (State.settle t)) ?_
  have hrec := (s.link n).receive_eq f
  split_ifs at hrec ⊢ with h1 h2 h3
  · exact State.updLink_id s n _ hrec
  · exact State.updLink_congr hrec
  · exact State.updLink_congr hrec
  · exact State.updLink_congr hrec

/-- Settles O9: what `Link.endFrame` does to a link, by the state of its receiver. -/
theorem frameEnds : Obligations.FrameEnds := by
  intro n bits s bad
  have ends {g : Link → Link} (h : (s.link n).endFrame (receiveBits bits) = g (s.link n)) :
      exec (.frameEnd n bits) s = .next (s.updLink n g).settle :=
    congrArg (fun t => Host.Outcome.next (State.settle t)) (State.updLink_congr h)
  refine ⟨fun f hr hf => ends ?_, fun why hr hwhy => ends ?_, fun hr => ends ?_, fun hr hs => ends ?_, fun hr => ?_⟩
  · rw [Link.endFrame_assembling hr, hf]
  · rw [Link.endFrame_assembling hr, hwhy]
    exact Link.discardFrame_eq _ why
  · rw [Link.endFrame_skipping hr]
    exact Link.discardFrame_eq _ .overrun
  · rw [Link.endFrame_closed hr, Link.seeLow, if_pos ⟨hr, hs⟩]
  · refine (ends (g := id) ?_).trans (by rw [State.updLink_id s n id rfl])
    rcases hr with hr | ⟨hr, hs⟩
    · rw [Link.endFrame_idle hr]; rfl
    · rw [Link.endFrame_closed hr, Link.seeLow, if_neg fun h => h.2 hs]; rfl

/-- Settles O10: each row is a change of its link, by the state of its receiver. -/
theorem lineEvents : Obligations.LineEvents := by
  intro n s
  have event {f g : Link → Link} (h : f (s.link n) = g (s.link n)) :
      (Host.Outcome.next (s.updLink n f).settle : Host.Outcome State Fault Refusal) = .next (s.updLink n g).settle :=
    congrArg (fun t => Host.Outcome.next (State.settle t)) (State.updLink_congr h)
  refine ⟨fun hr => event ?_, fun hr => ?_, fun hr hs => event ?_, fun hr => ?_, rfl, rfl, ?_⟩
  · rw [Link.beginFrame, if_pos hr]; rfl
  · refine (event (g := id) ?_).trans (by rw [State.updLink_id s n id rfl])
    rw [Link.beginFrame, if_neg hr]; rfl
  · rw [Link.seeLow, if_pos ⟨hr, hs⟩]
  · refine (event (g := id) ?_).trans (by rw [State.updLink_id s n id rfl])
    rw [Link.seeLow, if_neg (by tauto)]; rfl
  · simp [State.partHold, State.clearing, or_assoc]

/-- Settles O11: what `Link.endTransmission` does to a link, by what it sends and by the losses. -/
theorem transmissionCompletes : Obligations.TransmissionCompletes := by
  intro n s
  have event {g : Link → Link} (hbusy : (s.link n).transmitter ≠ .free) (h : (s.link n).endTransmission = g (s.link n)) :
      exec (.transmissionComplete n) s = .next (s.updLink n g).settle := by
    show execTransmissionComplete n s = _
    rw [execTransmissionComplete, if_neg hbusy, State.updLink_congr h]
  refine ⟨fun ht => event (by rw [ht]; exact nofun) ?_, fun ht hlost => event (by rw [ht]; exact nofun) ?_,
    fun ht hlost hreset hpos hroom => event (by rw [ht]; exact nofun) ?_, fun ht => ?_⟩
  · simp [Link.endTransmission, ht]
  · simp [Link.endTransmission, ht, Link.queueOverflow, hlost]
  · have hroom' : ((s.link n).notices.drop 1).length < 16 := by rw [List.length_drop]; omega
    simp only [Link.endTransmission, ht, Link.queueOverflow, hlost, if_false]
    rw [Link.queueNotice_of_room (by exact hreset) (by exact hroom'), List.drop_one]
  · show execTransmissionComplete n s = _
    rw [execTransmissionComplete, if_pos ht]

/-- Settles O12: the cases of the arbiter, by which lists are empty and by the count. -/
theorem outboundArbiterChooses : Obligations.OutboundArbiterChooses := by
  refine ⟨fun l => ?_, fun s => ⟨fun n => State.link_arbitrate s n, rfl⟩⟩
  intro line
  have hline : l.outLine.start = line := rfl
  unfold Link.arbitrate Link.startNotice Link.startReply streakLimit
  rw [hline]
  split
  · rfl
  · by_cases hn : l.notices = []
    · by_cases hr : l.replies = [] <;> simp [hn, hr]
    · by_cases hr : l.replies = []
      · simp [hn, hr]
      · by_cases hs : 4 ≤ l.streak <;> simp [hn, hr, hs]

end Sys2Proof.Proofs
end

section
/-! PROOFS. Power, the reset pin, upsets, outcomes by phase, accesses of reset slots, translation. -/

namespace Sys2Proof.Machine

variable {s t : State}

theorem State.link_reset (n : LinkId) : State.reset.link n = Link.atReset n false := by
  simp [State.reset, State.link]

theorem State.slot_reset (i : SlotId) : State.reset.slot i = none := by
  rw [State.slot, State.link_reset]
  simp [Link.slot, Link.atReset]

theorem State.busySlots_reset : State.reset.busySlots = [] := by
  simp [State.busySlots, State.slot_reset]

/-- A damaged word put in a Store is read there, whatever the Store's form. -/
theorem Store.at_put_self_of_ne {a : Nat} {w : StoreWord} (hw : w ≠ clearedWord) : ∀ st : Store, (st.put a w).at a = w
  | [] => by simp [Store.put, hw, Store.at]
  | (k, v) :: rest => by
    unfold Store.put
    rw [if_neg hw, if_neg hw]
    split
    · simp [Store.at]
    · split
      · simp [Store.at]
      · rename_i hne
        rw [Store.at, if_neg (Ne.symm hne), Store.at_put_self_of_ne hw rest]

theorem rstnFall_next (hrstn : s.rstn = true) (hport : s.port ≠ .clear) (he : exec .rstnFall s = .next t) :
    s.accessInStore = true ∧ ∃ extent, t.store = s.abandonedStore extent := by
  have he : execRstnFall s = .next t := he
  have hclear : s.clearing = false := by simpa [State.clearing] using hport
  unfold execRstnFall at he
  rw [if_neg (by simp [hrstn]), if_neg (by rw [hclear]; exact Bool.false_ne_true)] at he
  split at he
  · rename_i hin
    exact ⟨hin, _, by rw [← Host.Outcome.next.inj he]⟩
  · cases he

theorem runExchange_store {st : Store} {r : Operand} {c m v : Word} (hwf : st.wf = true) :
    (runExchange st r c m v).store = st ∨
      (st.at r.first).sound = true ∧ (st.at r.first).contents &&& m = c &&& m ∧
        ∀ b, (runExchange st r c m v).store.at b = if b = r.first then { contents := v, sound := true } else st.at b := by
  cases hs : (st.at r.first).sound with
  | false =>
    left
    rw [runExchange, Store.read_damaged hs]
  | true =>
    rw [runExchange, Store.read_sound hs]
    dsimp only
    split
    · rename_i heq
      exact .inr ⟨rfl, heq, fun b => Store.at_write hwf r.first b v⟩
    · exact .inl rfl

section Phases

variable {i : SlotId} {sl : Slot} {o : Outcome} (hslot : s.slot i = some sl)

include hslot

theorem State.handleOutcome_unanswered (hp : sl.phase = .unanswered) :
    s.handleOutcome i o = s.updLink i.link fun l => l.answerOutcome i.idx sl o := by
  simp only [State.handleOutcome, hslot, hp]

theorem State.handleOutcome_deferred (hp : sl.phase = .deferred) :
    s.handleOutcome i o = s.updLink i.link fun l => l.holdOutcome i.idx sl o := by
  simp only [State.handleOutcome, hslot, hp]

theorem State.handleOutcome_silent (hp : sl.phase = .silent) : s.handleOutcome i o = s.setSlot i none := by
  simp only [State.handleOutcome, hslot, hp]

end Phases

end Sys2Proof.Machine

namespace Sys2Proof.Proofs

open Sys2Proof Sys2Proof.Machine

/-- Settles O59: the records of a part at reset agree, and with every link CLOSED nothing is left to do. -/
theorem resetHasTheInvariants : Obligations.ResetHasTheInvariants := by
  have hrecords : State.reset.Records := State.records_atReset (fun n => ⟨false, State.link_reset n⟩) rfl (.inr rfl)
  obtain ⟨hnumbers, hconsistent⟩ := State.records_iff.mpr hrecords
  refine ⟨Store.wf_empty, State.bounded_iff.mpr ⟨fun n => ?_, Nat.zero_le _, fun id w hw => ?_⟩, ?_, hnumbers, hconsistent, ?_⟩
  · rw [State.link_reset]; exact Link.bounded_atReset n false
  · simp [State.watch, State.reset] at hw
  · simp [State.claimsCompatible, State.busySlots_reset]
  · have hstatus : ∀ n, (State.reset.link n).status = .closed := fun n => by rw [State.link_reset]; rfl
    have hresets : State.reset.resetsQuiet = true := by
      have hnone : State.reset.restartInProgress = none := State.restartInProgress_none.mpr fun n r => by
        rw [hstatus]; exact nofun
      simp [State.resetsQuiet, hnone, Link.isResetting, hstatus]
    have hengine : State.reset.engineQuiet = true := by
      simp [State.engineQuiet, State.firstEligible, State.engineQueue, State.busySlots_reset]
    have hempty : State.reset.inboxesEmpty = true := State.inboxesEmpty_iff.mpr fun n => by rw [State.link_reset]; rfl
    have hport : State.reset.portQuiet = true := rfl
    rw [State.calm, hresets, hengine, hport, hempty]; rfl

/-- Settles O15: the reset state field by field, and POWER_ON as `State.cleared`. -/
theorem resetHoldsPowerOnValues : Obligations.ResetHoldsPowerOnValues := by
  refine ⟨⟨rfl, rfl, rfl, rfl, rfl, rfl, fun id => ?_, rfl, fun id hid => ?_, fun n => ?_⟩, fun s => ?_⟩
  · simp [State.reset, State.watch]
  · have : (0 : Nat) ≠ id.val := fun e => hid (Fin.ext e.symm)
    simp [State.segment, State.reset, segmentsAtReset, this]
  · rw [State.link_reset]
    refine ⟨rfl, rfl, rfl, rfl, rfl, rfl, rfl, rfl, rfl, rfl, rfl, fun k => ?_, rfl, rfl, rfl, ?_, rfl, ?_⟩
    · simp [Link.slot, Link.atReset]
    · simp [State.outFrame, State.link_reset, Link.atReset]
    · simp [State.partHold, State.clearing, State.reset]
  · refine ⟨{ s.cleared with opened := false, port := .clear }, rfl, fun n => ?_, rfl⟩
    rw [State.link_reset]
    exact State.link_cleared n

/-- Settles O16: the two rows, by the line and by the start-up clear. -/
theorem serviceOpens : Obligations.ServiceOpens := by
  intro s opening
  have hclearing : s.clearing = decide (s.port = .clear) := rfl
  refine ⟨fun hp hr => ?_, fun hp hr => ?_, fun hp => ?_, fun a => rfl, fun hr hp => ?_, fun hr hp => ?_, fun hr => ?_⟩
  · show execStartUpClearComplete s = _
    rw [execStartUpClearComplete, if_pos (by simpa [hclearing] using hp)]
    simp only [hr, if_true]
    rfl
  · show execStartUpClearComplete s = _
    rw [execStartUpClearComplete, if_pos (by simpa [hclearing] using hp)]
    simp only [hr, Bool.false_eq_true, if_false]
  · show execStartUpClearComplete s = _
    rw [execStartUpClearComplete, if_neg (by simpa [hclearing] using hp)]
  · show execRstnRise s = _
    rw [execRstnRise, if_neg (by simp [hr]), if_neg (by simpa [hclearing] using hp)]
    rfl
  · show execRstnRise s = _
    rw [execRstnRise, if_neg (by simp [hr]), if_pos (by simpa [hclearing] using hp)]
  · show execRstnRise s = _
    rw [execRstnRise, if_pos hr]

/-- Settles O17: outside the clear the state after is `State.cleared` with the Store of the access cut short. -/
theorem rstnFalls : Obligations.RstnFalls := by
  intro s
  have hclearing : s.clearing = decide (s.port = .clear) := rfl
  refine ⟨fun hr hp hin => ?_, fun hr hp => ?_, fun hr => ?_⟩
  · refine ⟨{ s.cleared with
      rstn := false, store := s.abandonedStore (Config.abandonedExtent s.freeCount), freeCount := s.freeCount + 1
      port := .idle }, ?_, fun n => ?_, rfl, fun hidle => ?_, fun n => ?_⟩
    · show execRstnFall s = _
      rw [execRstnFall, if_neg (by simp [hr]), if_neg (by simpa [hclearing] using hp), if_pos hin]
    · rw [State.link_reset]
      exact State.link_cleared n
    · show s.abandonedStore _ = s.store
      rw [State.abandonedStore, hidle]
    · simp [State.partHold]
  · show execRstnFall s = _
    rw [execRstnFall, if_neg (by simp [hr]), if_pos (by simpa [hclearing] using hp)]
  · show execRstnFall s = _
    rw [execRstnFall, if_pos hr]

/-- Settles O18: each kind of access writes its words in order, so that one cut short has written a first part of them. -/
theorem abandonedAccessWritesAPrefix : Obligations.AbandonedAccessWritesAPrefix := by
  intro s t hrstn he hwf
  have access (hport : s.port ≠ .clear) := rstnFall_next hrstn hport he
  refine ⟨fun a r hp hjob => ?_, fun a r c m v hp hjob => ?_, fun a r hp hjob => ?_, fun r sl hp hslot => ?_⟩
  · obtain ⟨hin, extent, hstore⟩ := access (by rw [hp]; exact nofun)
    have hin : r.first + a.data.length ≤ storeSize := by
      simpa [State.accessInStore, hp, DirectAccess.inStore, hjob, inStore] using hin
    refine ⟨min extent a.data.length, Nat.min_le_right _ _, fun b => ?_⟩
    have hlen : (a.data.take (min extent a.data.length)).length = min extent a.data.length := by simp
    rw [hstore, State.abandonedStore, hp]
    simp only [DirectAccess.abandoned, hjob]
    rw [Store.at_writeRun _ b (by rw [hlen]; omega) hwf]
    by_cases hb : r.first ≤ b
    · by_cases hlt : b < r.first + min extent a.data.length
      · have h1 : b - r.first < min extent a.data.length := by omega
        have h2 : b - r.first < a.data.length := by omega
        simp [hb, hlt, h1, List.getElem?_eq_getElem h2]
      · have h1 : ¬ b - r.first < min extent a.data.length := by omega
        simp only [hb, hlt, and_false, if_true, if_false, List.getElem?_take, h1]
    · simp [hb]
  · obtain ⟨_, extent, hstore⟩ := access (by rw [hp]; exact nofun)
    rw [hstore, State.abandonedStore, hp]
    simp only [DirectAccess.abandoned, hjob]
    split
    · exact .inl rfl
    · exact runExchange_store hwf
  · obtain ⟨_, extent, hstore⟩ := access (by rw [hp]; exact nofun)
    rw [hstore, State.abandonedStore, hp]
    simp only [DirectAccess.abandoned, hjob]
  · obtain ⟨_, extent, hstore⟩ := access (by rw [hp]; exact nofun)
    rw [hstore, State.abandonedStore, hp]
    simp only [hslot, Stride.abandoned]
    exact ⟨_, Nat.min_le_right _ _, rfl⟩

/-- Settles O19: the upset writes the one word, unless it is damaged already. -/
theorem upsetDamagesOneWord : Obligations.UpsetDamagesOneWord := by
  intro s address
  refine ⟨_, rfl, rfl, ?_, fun hd => ?_, fun a ha => ?_⟩
  · show ((s.store.upset address.toNat _).at address.toNat).sound = false
    unfold Store.upset
    split
    · rw [Store.at_put_self_of_ne (by simp [clearedWord])]
    · rename_i hs
      simpa using hs
  · show s.store.upset address.toNat _ = s.store
    rw [Store.upset, hd]; rfl
  · show (s.store.upset address.toNat _).at a = s.store.at a
    unfold Store.upset
    split
    · exact Store.at_put_ne _ _ ha
    · rfl

/-- Settles O22: one case for each phase. -/
theorem outcomeIsHandledByPhase : Obligations.OutcomeIsHandledByPhase := by
  intro s i sl o hslot
  refine ⟨State.handleOutcome_unanswered hslot, fun hp hn => ?_, fun hp hn => ?_, State.handleOutcome_silent hslot⟩
  · refine (State.handleOutcome_deferred hslot hp).trans (State.updLink_congr ?_)
    unfold Link.holdOutcome
    rw [if_neg (by simp [hn])]
    rfl
  · refine (State.handleOutcome_deferred hslot hp).trans (State.updLink_congr ?_)
    unfold Link.holdOutcome
    rw [if_pos hn]
    rfl

/-- Settles O28: the words each kind ends with, by the three ways it can end. -/
theorem blockOutcomesCarryTheirWords : Obligations.BlockOutcomesCarryTheirWords := by
  intro sl f w
  refine ⟨fun a b hj => ?_, fun a t v m hj => ?_, fun a g i hj => ?_, fun a g x hj => ?_, fun a t m hj => ?_⟩ <;>
    simp [Slot.ownOutcome, Slot.cancelledOutcome, Slot.faultOutcome, hj]

/-- Settles O29: the access runs as any other; the slot that waits for its outcome is missing, or is freed. -/
theorem accessesOfResetSlotsComplete : Obligations.AccessesOfResetSlotsComplete := by
  refine ⟨fun s a hp hlive hin => ?_, fun s r sl hp hslot hstate hin => ?_⟩
  · show execDirectAccessComplete s = _
    simp only [execDirectAccessComplete, hp, hin, if_true, State.completeDirect, hlive, Bool.false_eq_true, if_false]
    rfl
  · have hfault : countFault (r.run sl s.store).fault.isSome s.faults =
        if (r.run sl s.store).fault = none then s.faults else min (s.faults + 1) 65535 := by
      cases (r.run sl s.store).fault <;> rfl
    show execStoppingStrideComplete s = _
    simp only [execStoppingStrideComplete, State.strideSlot, hp, hslot, hstate, if_true, hin, State.completeStopping, hfault]

/-- Settles O41: the checks of a translation in order. -/
theorem translationAnswers : Obligations.TranslationAnswers := by
  intro s n need r
  refine ⟨fun id => ?_, fun o ho => ?_, fun hnone => ?_, fun g hg => ⟨fun hlen => ?_, fun hlen hlt => ?_, fun hlen hle => ?_, ?_⟩⟩
  · have hid : (octet id.val).toNat = id.val := octet_toNat (by omega)
    have hlt : (octet id.val).toNat < 64 := by omega
    rw [State.segmentOf, dif_pos hlt]
    simp only [hid]
    rfl
  · rw [State.segmentOf, dif_neg (by omega)]
  · rw [State.translate, hnone]
  · simp only [State.translate, hg, hlen, if_true]
  · have h1 : ¬ g.length < r.offset + r.count := by omega
    have h2 : (g.right n).satisfies need = false := by simpa [Right.satisfies] using hlt
    simp only [State.translate, hg, h1, h2, Bool.false_eq_true, if_false]
  · have h1 : ¬ g.length < r.offset + r.count := by omega
    have h2 : (g.right n).satisfies need = true := by simpa [Right.satisfies] using hle
    simp only [State.translate, hg, h1, h2, if_true, if_false]
  · decide

end Sys2Proof.Proofs
end

section
/-! PROOFS. Completions at the Store Port (R69 to R80, R92 to R100), the port's choice and dispatch (R62 to R64, R83 to R87), and
the completion of resets (R185 to R188). -/

namespace Sys2Proof.Machine

variable {s t : State}

/-! ### Direct accesses -/

theorem Store.changes_eq (st : Store) (a : Nat) (v : Word) :
    st.changes a v = decide ((st.at a).sound = false ∨ (st.at a).contents ≠ v) := by
  unfold Store.changes
  cases (st.at a).sound <;> simp

theorem State.handReport_none (s : State) : s.handReport none = s := rfl

/-- DIRECT_ACCESS_COMPLETE of an access whose slot waits for it, by what the access comes to. -/
theorem exec_directAccessComplete {a : DirectAccess} {st : Store} {faults : Nat} {rep : Option WriteReport} {o : Outcome}
    (hport : s.port = .direct a) (hlive : a.live = true) (hin : a.inStore = true) (hstore : (a.run s.store).store = st)
    (hfaults : countFault (a.run s.store).fault s.faults = faults)
    (hrep : reportOf a.owner.link (a.run s.store).first (a.run s.store).marks = rep) (ho : (a.run s.store).outcome = o) :
    exec .directAccessComplete s = .next
      ((State.handReport { s with store := st, port := .idle, faults := faults } rep).handleOutcome a.owner o).settle := by
  subst hstore hfaults hrep ho
  show execDirectAccessComplete s = _
  simp only [execDirectAccessComplete, hport, hin, if_true, State.completeDirect, hlive]

/-- An access that writes no word makes no report. -/
theorem exec_directAccessComplete_unwritten {a : DirectAccess} {o : Outcome} {fault : Bool} {first faults : Nat}
    (hport : s.port = .direct a) (hlive : a.live = true) (hin : a.inStore = true)
    (hrun : a.run s.store = { store := s.store, outcome := o, fault := fault, first := first, marks := [] })
    (hfaults : countFault fault s.faults = faults) :
    exec .directAccessComplete s =
      .next (State.handleOutcome { s with port := .idle, faults := faults } a.owner o).settle := by
  have h := exec_directAccessComplete (st := s.store) (faults := faults) (rep := none) (o := o) hport hlive hin
    (by rw [hrun]) (by rw [hrun]; exact hfaults) (by rw [hrun]; rfl) (by rw [hrun])
  rwa [State.handReport_none] at h

theorem foldl_linkIds {α : Type} (f : α → LinkId → α) (a : α) : linkIds.foldl f a = f (f (f (f a 0) 1) 2) 3 := rfl

/-- A reopened link with room in its Notice Queue takes the notice (R186, R188). -/
theorem Link.reopen_queueNotice {l : Link} {m : Notice} (hroom : l.notices.length < 16) :
    l.reopen.queueNotice m = { l with inbox := [], status := .opened, notices := l.notices ++ [m] } := by
  have h : l.reopen.isResetting = false := by simp only [Link.reopen, Link.isResetting]
  rw [Link.queueNotice_of_room h hroom]
  rfl

theorem Link.reopen_placeReply_queueNotice {l : Link} {r : Reply} {m : Notice} (hroom : l.notices.length < 16) :
    (l.reopen.placeReply r).queueNotice m =
      { l with inbox := [], status := .opened, notices := l.notices ++ [m], replies := l.replies ++ [r] } := by
  have h : (l.reopen.placeReply r).isResetting = false := by simp only [Link.reopen, Link.placeReply, Link.isResetting]
  rw [Link.queueNotice_of_room h hroom]
  rfl

/-! ### The settlement of a stride -/

theorem Cursor.advance_eq (c : Cursor) (run : StrideRun) :
    c.advance run = { c with
      done := c.done + run.done
      next := if c.dir = .upward then c.next + run.done else c.next - run.done
      acc := run.acc } := by
  unfold Cursor.advance
  cases c.dir <;> rfl

theorem State.preempts_iff {priority : Fin 4} : s.preempts priority = true ↔
    ∃ p ∈ s.engineQueue, priority < p.2.priority ∧ s.engineEligible p.1 p.2 = true := by
  simp [State.preempts, List.any_eq_true]

section Settlement

variable {i : SlotId} {sl : Slot} {run : StrideRun}

theorem State.settleStride_fault {f : StrideFault} (hf : run.fault = some f) :
    s.settleStride i sl run = s.handleOutcome i (sl.faultOutcome f) := by
  simp only [State.settleStride, hf]

theorem State.settleStride_finished (hf : run.fault = none) (hdone : strideFinished sl run = true) :
    s.settleStride i sl run = s.handleOutcome i (sl.ownOutcome run.found) := by
  simp only [State.settleStride, hf, hdone, if_true]

theorem State.settleStride_goesOn (hf : run.fault = none) (hdone : strideFinished sl run = false) :
    s.settleStride i sl run =
      if sl.cancelMark then s.handleOutcome i sl.cancelledOutcome
      else if s.preempts sl.priority then s.setSlot i (some { sl with state := .suspended })
      else { s with stride := some (nextStride i sl) } := by
  simp only [State.settleStride, hf, hdone, Bool.false_eq_true, if_false]

end Settlement

/-! ### The engine and its queue -/

theorem State.engineBusy_iff : s.engineBusy = true ↔
    ∃ i sl, s.slot i = some sl ∧ (sl.state = .running ∨ sl.state = .stopping) := by
  simp [State.engineBusy, List.any_eq_true, State.mem_busySlots]

theorem State.engineEligible_iff {i : SlotId} {sl : Slot} : s.engineEligible i sl = true ↔
    sl.state = .suspended ∨ s.clearOfClaims i sl.job.claims = true ∧ sl.cancelMark = false ∧
      ∀ k sl', s.slot ⟨i.link, k⟩ = some sl' → sl'.state = .waiting → sl'.phase = .silent → sl.admission ≤ sl'.admission := by
  rw [← State.barred_eq_false]
  simp only [State.engineEligible, Bool.or_eq_true, decide_eq_true_eq, Bool.and_eq_true, Bool.not_eq_true']
  tauto

theorem State.mem_engineQueue {i : SlotId} {sl : Slot} :
    (i, sl) ∈ s.engineQueue ↔ s.slot i = some sl ∧ (sl.state = .queued ∨ sl.state = .suspended) := by
  rw [State.engineQueue, (joinQueues_perm _).mem_iff, List.mem_filter, State.mem_busySlots]
  simp

/-- The order of the Engine Queue (R83). -/
def Slot.notBehind (a b : Slot) : Prop :=
  b.priority < a.priority ∨ a.priority = b.priority ∧ a.admission ≤ b.admission

theorem Slot.notBehind_trans {a b c : Slot} (h : a.notBehind b) (h' : b.notBehind c) : a.notBehind c := by
  unfold Slot.notBehind at h h' ⊢
  omega

theorem Slot.notBehind_of_aheadOf {a b : Slot} (h : aheadOf a b = true) : a.notBehind b := by
  simp only [aheadOf, Bool.or_eq_true, decide_eq_true_eq, Bool.and_eq_true] at h
  unfold Slot.notBehind
  omega

theorem Slot.notBehind_of_not_aheadOf {a b : Slot} (h : ¬ aheadOf a b = true) : b.notBehind a := by
  simp only [aheadOf, Bool.or_eq_true, decide_eq_true_eq, Bool.and_eq_true] at h
  unfold Slot.notBehind
  omega

theorem pairwise_joinQueue (e : SlotId × Slot) : ∀ l : List (SlotId × Slot), l.Pairwise (fun p q => p.2.notBehind q.2) →
    (joinQueue e l).Pairwise fun p q => p.2.notBehind q.2
  | [], _ => List.pairwise_singleton _ _
  | x :: rest, h => by
    rw [List.pairwise_cons] at h
    unfold joinQueue
    split
    · rename_i hahead
      refine List.pairwise_cons.mpr ⟨fun q hq => ?_, pairwise_joinQueue e rest h.2⟩
      rcases List.mem_cons.mp ((joinQueue_perm e rest).mem_iff.mp hq) with rfl | hq
      · exact Slot.notBehind_of_aheadOf hahead
      · exact h.1 q hq
    · rename_i hbehind
      have hx := Slot.notBehind_of_not_aheadOf hbehind
      refine List.pairwise_cons.mpr ⟨fun q hq => ?_, List.pairwise_cons.mpr h⟩
      rcases List.mem_cons.mp hq with rfl | hq
      · exact hx
      · exact Slot.notBehind_trans hx (h.1 q hq)

theorem State.pairwise_engineQueue : s.engineQueue.Pairwise fun p q => p.2.notBehind q.2 := by
  have fold : ∀ l : List (SlotId × Slot), (l.foldr joinQueue []).Pairwise fun p q => p.2.notBehind q.2 := by
    intro l
    induction l with
    | nil => exact List.Pairwise.nil
    | cons e l ih => exact pairwise_joinQueue e _ ih
  exact fold _

theorem State.nodup_engineQueue_keys : (s.engineQueue.map fun p => p.1).Nodup := by
  have hkeys : (s.busySlots.map fun p => p.1).Nodup := by
    have hfun : (s.busySlots.map fun p => p.1) = allSlots.filter fun i => (s.slot i).isSome := by
      rw [State.busySlots, List.map_filterMap, ← List.filterMap_eq_filter]
      refine List.filterMap_congr fun i _ => ?_
      cases h : s.slot i <;> simp [Option.guard, h]
    rw [hfun]
    exact nodup_allSlots.filter _
  rw [State.engineQueue, ((joinQueues_perm _).map _).nodup_iff]
  exact hkeys.sublist (List.filter_sublist.map _)

/-! ### The direct candidates -/

theorem State.mem_directCandidates {i : SlotId} {sl : Slot} : (i, sl) ∈ s.directCandidates ↔
    s.slot i = some sl ∧ sl.state = .waiting ∧ s.inAccess i = false ∧ s.clearOfClaims i sl.job.claims = true ∧
      ∀ k sl', s.slot ⟨i.link, k⟩ = some sl' → sl'.state = .waiting → sl'.phase = .silent → sl.admission ≤ sl'.admission := by
  rw [← State.barred_eq_false]
  simp only [State.directCandidates, List.mem_filter, State.mem_busySlots, State.directEligible, Bool.and_eq_true,
    decide_eq_true_eq, Bool.not_eq_true']
  tauto

end Sys2Proof.Machine

namespace Sys2Proof.Proofs

open Sys2Proof Sys2Proof.Machine

/-- Settles O23: the run of words is read whole, or to its lowest damaged word. -/
theorem readCompletes : Obligations.ReadCompletes := by
  intro s a r hport hlive hjob hrange
  have hin : a.inStore = true := by simp [DirectAccess.inStore, hjob, inStore, storeSize, hrange]
  have hrun : a.run s.store = runRead s.store r := by simp only [DirectAccess.run, hjob]
  refine ⟨fun hsound => ?_, fun k hk hbefore hdamaged => ?_⟩
  · rw [runRead, Store.readRun_ok _ _ _ hsound] at hrun
    exact exec_directAccessComplete_unwritten hport hlive hin hrun rfl
  · rw [runRead, Store.readRun_error _ _ _ k hk hbefore hdamaged] at hrun
    have houtcome : directFault r (r.first + k) = { status := .storeFault, words := [numWord (r.offset + k)] } := by
      rw [directFault, Nat.add_sub_cancel_left, Nat.add_comm k]
    simp only [houtcome] at hrun
    exact exec_directAccessComplete_unwritten hport hlive hin hrun rfl

/-- Settles O24: every word is written, and the marks are those of the words before. -/
theorem writeCompletes : Obligations.WriteCompletes := by
  intro s a r hport hlive hjob hrange hdata hwf
  have hin : a.inStore = true := by simp [DirectAccess.inStore, hjob, inStore, storeSize, hrange]
  have hrun : a.run s.store = runWrite s.store r a.data := by simp only [DirectAccess.run, hjob]
  refine ⟨(s.store.writeRun r.first a.data).1, Store.wf_writeRun _ hrange hwf, fun b => ?_, ?_⟩
  · rw [Store.at_writeRun _ b hrange hwf]
    by_cases hb : r.first ≤ b
    · by_cases hlt : b < r.first + a.data.length
      · have h : b - r.first < a.data.length := by omega
        simp [hb, hlt, List.getElem?_eq_getElem h]
      · have h : a.data.length ≤ b - r.first := by omega
        simp [hb, hlt, List.getElem?_eq_none h]
    · simp [hb]
  · have hmarks : (s.store.writeRun r.first a.data).2 = a.data.mapIdx fun i w =>
        decide ((s.store.at (r.first + i)).sound = false ∨ (s.store.at (r.first + i)).contents ≠ w) := by
      rw [Store.marks_writeRun]
      simp only [Store.changes_eq]
    have hne : (s.store.writeRun r.first a.data).2 ≠ [] := by
      rw [Store.marks_writeRun]
      simpa using hdata
    refine exec_directAccessComplete hport hlive hin (by rw [hrun]; rfl) (by rw [hrun]; rfl) ?_ (by rw [hrun]; rfl)
    rw [hrun, ← hmarks]
    exact if_neg hne

/-- Settles O25: one case for each row of R77. -/
theorem exchangeCompletes : Obligations.ExchangeCompletes := by
  intro s a r c m v hport hlive hjob hrange hwf
  have hin : a.inStore = true := by simp [DirectAccess.inStore, hjob, inStore, storeSize]; omega
  have hrun : a.run s.store = runExchange s.store r c m v := by simp only [DirectAccess.run, hjob]
  refine ⟨fun hdamaged => ?_, fun hsound heq => ?_, fun hsound hne => ?_⟩
  · simp only [runExchange, Store.read_damaged hdamaged] at hrun
    rw [directFault, Nat.sub_self, Nat.zero_add] at hrun
    exact exec_directAccessComplete_unwritten hport hlive hin hrun rfl
  · simp only [runExchange, Store.read_sound hsound, heq, if_true] at hrun
    refine ⟨s.store.write r.first v, Store.wf_write v hrange hwf, fun b => Store.at_write hwf r.first b v, ?_⟩
    refine exec_directAccessComplete hport hlive hin (by rw [hrun]) (by rw [hrun]; rfl) ?_ (by rw [hrun])
    rw [hrun]
    simp only [reportOf, List.cons_ne_nil, if_false, Store.changes_eq, hsound, Bool.true_eq_false, false_or]
  · simp only [runExchange, Store.read_sound hsound, hne, if_false] at hrun
    exact exec_directAccessComplete_unwritten hport hlive hin hrun rfl

/-- Settles O27: the completed stride is `State.settleStride`, whose cases are those of R94. -/
theorem strideCompletionIsSettled : Obligations.StrideCompletionIsSettled := by
  intro s r sl hport hslot hstate hin run sl' t
  have hsl' : { sl with cursor := sl.cursor.advance run } = sl' := by rw [Cursor.advance_eq]
  have hfaults : countFault run.fault.isSome s.faults = if run.fault = none then s.faults else min (s.faults + 1) 65535 := by
    cases run.fault <;> rfl
  have hexec : exec .strideComplete s = .next (t.settleStride r.owner sl' run).settle := by
    have hstrideSlot : s.strideSlot .running = some (r, sl) := by
      simp only [State.strideSlot, hport, hslot, hstate, if_true]
    show execStrideComplete s = _
    simp only [execStrideComplete, hstrideSlot, hin, if_true, State.completeStride]
    rw [show r.run sl s.store = run from rfl, hsl', hfaults]
  have hgoes (hfound : run.found = none) (hcount : sl'.cursor.done ≠ sl.job.count) : strideFinished sl' run = false := by
    simp only [strideFinished, hfound, Option.isSome_none, Bool.false_or, decide_eq_false_iff_not]
    exact hcount
  refine ⟨fun f hf => ?_, fun hf hdone => ?_, fun hf hfound hcount hmark => ?_, fun hf hfound hcount hmark hpre => ?_,
    fun hf hfound hcount hmark hpre => ?_⟩
  · rw [hexec, State.settleStride_fault hf]
  · rw [hexec, State.settleStride_finished hf]
    rcases hdone with hfound | hcount
    · simp [strideFinished, Option.isSome_iff_ne_none.mpr hfound]
    · exact Bool.or_eq_true_iff.mpr (.inr (decide_eq_true hcount))
  · rw [hexec, State.settleStride_goesOn hf (hgoes hfound hcount), if_pos hmark]
  · rw [hexec, State.settleStride_goesOn hf (hgoes hfound hcount), if_neg (by rw [hmark]; exact Bool.false_ne_true),
      if_pos (State.preempts_iff.mpr hpre)]
  · have hnot : ¬ t.preempts sl'.priority = true := fun h => by
      obtain ⟨p, hp, hlt, hel⟩ := State.preempts_iff.mp h
      rw [hpre p hp hlt] at hel; cases hel
    rw [hexec, State.settleStride_goesOn hf (hgoes hfound hcount), if_neg (by rw [hmark]; exact Bool.false_ne_true), if_neg hnot]
    rfl

/-- Settles O38: the candidates by `State.mem_directCandidates`, the choice by what stands and by the marker. -/
theorem portChoosesByMarkerAndAge : Obligations.PortChoosesByMarkerAndAge := by
  intro s
  refine ⟨fun i sl => State.mem_directCandidates, fun hport => ?_, fun hport hstride hnone => ?_, fun r hport hstride hor => ?_,
    fun hport hcand hor => ?_⟩
  · unfold State.portChoose
    split
    · exact absurd ‹_› hport
    · rfl
  · simp only [State.portChoose, hport, hstride, hnone, earliest]
  · have hstart : s.portChoose = s.startStride r := by
      cases he : earliest s.directCandidates with
      | none => simp only [State.portChoose, hport, hstride, he]
      | some p =>
        have hmarker : s.marker = .direct := hor.resolve_left fun h => by rw [h] at he; cases he
        simp only [State.portChoose, hport, hstride, he, hmarker]
    exact hstart
  · cases he : earliest s.directCandidates with
    | none => exact absurd (earliest_eq_none.mp he) hcand
    | some p =>
      obtain ⟨i, sl⟩ := p
      obtain ⟨hmem, hleast⟩ := earliest_mem he
      refine ⟨i, sl, hmem, hleast, ?_⟩
      have hstart : s.portChoose = s.startDirect i sl := by
        cases hstride : s.stride with
        | none => simp only [State.portChoose, hport, hstride, he]
        | some r =>
          have hmarker : s.marker = .engine := hor.resolve_left fun h => by rw [hstride] at h; cases h
          simp only [State.portChoose, hport, hstride, he, hmarker]
      exact hstart

/-- Settles O39: the first eligible entry is found behind entries that are not. -/
theorem dispatchTakesTheFirstEligible : Obligations.DispatchTakesTheFirstEligible := by
  intro s
  refine ⟨fun i sl => State.engineEligible_iff, fun hbusy => ?_, fun hnone => ?_, fun before i sl after hidle hqueue hbefore hel => ?_⟩
  · rw [State.dispatch, if_pos (State.engineBusy_iff.mpr hbusy)]
  · have hfirst : s.firstEligible = none := List.find?_eq_none.mpr fun p hp => by rw [hnone p hp]; exact Bool.false_ne_true
    rw [State.dispatch, hfirst]
    split <;> rfl
  · have hbusy : ¬ s.engineBusy = true := fun h => by
      obtain ⟨j, sl', hj, hor⟩ := State.engineBusy_iff.mp h
      obtain ⟨h1, h2⟩ := hidle j sl' hj
      exact hor.elim h1 h2
    have hfirst : s.firstEligible = some (i, sl) := by
      rw [State.firstEligible, hqueue, List.find?_append, List.find?_cons_of_pos (by exact hel),
        List.find?_eq_none.mpr fun p hp => by rw [hbefore p hp]; exact Bool.false_ne_true]
      rfl
    rw [State.dispatch, if_neg hbusy, hfirst]
    rfl

/-- Settles O40: the queue is a permutation of the slots it may hold, and each entry joins at its place. -/
theorem engineQueueIsOrdered : Obligations.EngineQueueIsOrdered := fun _ =>
  ⟨fun _ _ => State.mem_engineQueue, State.nodup_engineQueue_keys, State.pairwise_engineQueue⟩

/-- Settles O53: which links and slots a completion touches, for a LINKRESET and for a RESTART. -/
theorem resetsComplete : Obligations.ResetsComplete := by
  refine ⟨fun s t n tag ht hroom => ⟨fun hnone => ?_, fun hsome => ?_⟩, fun s n hn hroom => ⟨fun hnone => ?_, fun hsome => ?_⟩,
    fun s hnone => ?_, fun s => ?_⟩
  · have hstop : ¬ s.stoppingOn t = true := fun h => by
      obtain ⟨k, sl, hsl, hst⟩ := State.stoppingOn_iff.mp h
      exact hnone k sl hsl hst
    have hfinish : s.finishLinkreset t = s.completeLinkreset t n tag := by
      simp only [State.finishLinkreset, ht, if_neg hstop]
    rw [hfinish]
    refine ⟨fun m => ?_, State.linksOnly_completeLinkreset t n tag⟩
    rw [State.link_completeLinkreset]
    by_cases hm : m = t
    · rw [if_pos hm, if_pos hm]
      by_cases hnt : n = t
      · rw [if_pos hnt, if_pos hnt, Link.reopen_placeReply_queueNotice hroom]
      · rw [if_neg hnt, if_neg hnt, Link.reopen_queueNotice hroom]
    · rw [if_neg hm, if_neg hm]
      rfl
  · simp only [State.finishLinkreset, ht, if_pos (State.stoppingOn_iff.mpr hsome)]
  · have hstop : ¬ s.stopping = true := fun h => by
      obtain ⟨i, sl, hsl, hst⟩ := State.stopping_iff.mp h
      exact hnone i sl hsl hst
    have hcomplete : s.completeResets = s.completeRestart n := by
      simp only [State.completeResets, hn, if_neg hstop]
    rw [hcomplete]
    refine ⟨fun m => ?_, rfl⟩
    have hlink : (s.completeRestart n).link m = (s.link m).reopen.queueNotice (.restarted .restart n) := by
      unfold State.completeRestart
      exact State.link_mapLinks s m fun _ l => l.reopen.queueNotice (.restarted .restart n)
    rw [hlink, Link.reopen_queueNotice (hroom m)]
  · simp only [State.completeResets, hn, if_pos (State.stopping_iff.mpr hsome)]
  · simp only [State.completeResets, hnone, foldl_linkIds]
  · simp only [State.settle, State.react, foldl_linkIds]

end Sys2Proof.Proofs
end

section
/-! PROOFS. What the strides of each block operation do (R89, R110 to R124). A COPY, an APPLY and a MAP share one argument: each
position writes one word of the operand written, and no position reads a word that an earlier one wrote. -/

namespace Sys2Proof.Machine

variable {s t : State}

/-! ### Strides that write a word at each position -/

/-- The Store once the first `i` positions from `k` on hold their `new` words: every other word is that of `st`. -/
structure Store.Overwritten (st : Store) (o : Operand) (d : Direction) (k : Nat) (new : Nat → Word) (i : Nat) (st' : Store) :
    Prop where
  wf : st'.wf = true
  at_eq : ∀ x, st'.at x =
    if ∃ l, l < i ∧ x = o.first + d.after^[l] k then { contents := new x, sound := true } else st.at x

section Writes

variable {j : Job Operand} {o : Operand} {d : Direction} {k i m : Nat} {new : Nat → Word} {st st' : Store} {acc : Word}
  {f : StrideFault}

theorem Store.overwritten_zero (hwf : st.wf = true) : st.Overwritten o d k new 0 st where
  wf := hwf
  at_eq x := by simp

/-- A word that none of the positions written is at reads as it did. -/
theorem Store.Overwritten.at_apart (h : st.Overwritten o d k new i st') {x : Nat}
    (hx : ∀ l, l < i → x ≠ o.first + d.after^[l] k) : st'.at x = st.at x := by
  rw [h.at_eq, if_neg]
  rintro ⟨l, hl, rfl⟩
  exact hx l hl rfl

theorem Store.Overwritten.write (h : st.Overwritten o d k new i st') (hfit : o.first + d.after^[i] k < storeSize) :
    st.Overwritten o d k new (i + 1) (st'.write (o.first + d.after^[i] k) (new (o.first + d.after^[i] k))) where
  wf := Store.wf_write _ hfit h.wf
  at_eq x := by
    rw [Store.at_write h.wf]
    by_cases hx : x = o.first + d.after^[i] k
    · rw [if_pos hx, if_pos ⟨i, Nat.lt_succ_self i, hx⟩, hx]
    · rw [if_neg hx, h.at_eq]
      refine if_congr ⟨?_, ?_⟩ rfl rfl
      · rintro ⟨l, hl, hxl⟩
        exact ⟨l, Nat.lt_succ_of_lt hl, hxl⟩
      · rintro ⟨l, hl, hxl⟩
        rcases Nat.lt_succ_iff_lt_or_eq.mp hl with hl | rfl
        · exact ⟨l, hl, hxl⟩
        · exact absurd hxl hx

/-- A stride of which each position up to the `m`th writes its new word, and the `m`th, if it is among them, stops. -/
theorem Job.positions_writes (hfit : ∀ l, l < m → o.first + d.after^[l] k < storeSize)
    (hapart : ∀ l l', l < l' → l' < m → d.after^[l'] k ≠ d.after^[l] k)
    (hwrites : ∀ l, l < m → ∀ st', st.Overwritten o d k new l st' →
      j.position st' (d.after^[l] k) acc = writeAt st' o (d.after^[l] k) acc (new (o.first + d.after^[l] k))) :
    ∀ (n i : Nat) (st' : Store), st.Overwritten o d k new i st' → i ≤ m → m ≤ i + n →
      (m < i + n → ∀ st', st.Overwritten o d k new m st' → j.position st' (d.after^[m] k) acc = .stopped f) →
      ∃ st'', st.Overwritten o d k new m st'' ∧ j.positions d n (d.after^[i] k) st' acc =
        { store := st'', acc := acc, done := m - i, found := none, fault := if m < i + n then some f else none
          marks := (List.range' i (m - i)).map fun l => st.changes (o.first + d.after^[l] k) (new (o.first + d.after^[l] k)) }
  | 0, i, st', hst, him, hmi, _ => by
    obtain rfl : i = m := by omega
    exact ⟨st', hst, by simp [Job.positions]⟩
  | n + 1, i, st', hst, him, hmi, hstop => by
    rcases Nat.lt_or_ge i m with hlt | hge
    · obtain ⟨st'', hst'', hrun⟩ := Job.positions_writes hfit hapart hwrites n (i + 1) _ (hst.write (hfit i hlt)) hlt (by omega)
        fun h => hstop (by omega)
      refine ⟨st'', hst'', ?_⟩
      have hchange (v : Word) : st'.changes (o.first + d.after^[i] k) v = st.changes (o.first + d.after^[i] k) v := by
        have hat : st'.at (o.first + d.after^[i] k) = st.at (o.first + d.after^[i] k) :=
          hst.at_apart fun l hl h => hapart l i hl hlt (Nat.add_left_cancel h)
        rw [Store.changes, Store.changes, hat]
      rw [Function.iterate_succ_apply'] at hrun
      rw [Job.positions_succ, hwrites i hlt st' hst, writeAt]
      simp only [hrun, hchange]
      have hm : m - i = (m - (i + 1)) + 1 := by omega
      rw [hm, List.range'_succ, show i + 1 + n = i + (n + 1) by omega]
      rfl
    · obtain rfl : i = m := by omega
      refine ⟨st', hst, ?_⟩
      rw [Job.positions_succ, hstop (by omega) st' hst]
      simp

/-- The stride from its first position on. -/
theorem Job.positions_writes_all {n : Nat} (hwf : st.wf = true) (hfit : ∀ l, l < m → o.first + d.after^[l] k < storeSize)
    (hapart : ∀ l l', l < l' → l' < m → d.after^[l'] k ≠ d.after^[l] k)
    (hwrites : ∀ l, l < m → ∀ st', st.Overwritten o d k new l st' →
      j.position st' (d.after^[l] k) acc = writeAt st' o (d.after^[l] k) acc (new (o.first + d.after^[l] k)))
    (hmn : m ≤ n)
    (hstop : m < n → ∀ st', st.Overwritten o d k new m st' → j.position st' (d.after^[m] k) acc = .stopped f) :
    ∃ st'', st.Overwritten o d k new m st'' ∧ j.positions d n k st acc =
      { store := st'', acc := acc, done := m, found := none, fault := if m < n then some f else none
        marks := (List.range m).map fun l => st.changes (o.first + d.after^[l] k) (new (o.first + d.after^[l] k)) } := by
  obtain ⟨st'', hst'', hrun⟩ := Job.positions_writes (f := f) hfit hapart hwrites n 0 st (Store.overwritten_zero hwf) (Nat.zero_le m)
    (by omega) (by rwa [Nat.zero_add])
  refine ⟨st'', hst'', ?_⟩
  rw [Function.iterate_zero_apply] at hrun
  rw [hrun, Nat.zero_add, Nat.sub_zero, List.range_eq_range']

/-- Words written upward are a run of the operand. -/
theorem Store.Overwritten.at_upward (h : st.Overwritten o .upward k new i st') (x : Nat) : st'.at x =
    if o.first + k ≤ x ∧ x < o.first + k + i then { contents := new x, sound := true } else st.at x := by
  rw [h.at_eq]
  refine if_congr ⟨?_, fun hx => ⟨x - o.first - k, by omega, ?_⟩⟩ rfl rfl
  · rintro ⟨l, hl, rfl⟩
    rw [Direction.after_iterate_upward]
    omega
  · rw [Direction.after_iterate_upward]
    omega

/-- So are words written downward, to the operand's lowest word at most. -/
theorem Store.Overwritten.at_downward (h : st.Overwritten o .downward k new i st') (hi : i ≤ k + 1) (x : Nat) : st'.at x =
    if o.first + k < x + i ∧ x ≤ o.first + k then { contents := new x, sound := true } else st.at x := by
  rw [h.at_eq]
  refine if_congr ⟨?_, fun hx => ⟨o.first + k - x, by omega, ?_⟩⟩ rfl rfl
  · rintro ⟨l, hl, rfl⟩
    rw [Direction.after_iterate_downward]
    omega
  · rw [Direction.after_iterate_downward]
    omega

end Writes

/-! ### COPY -/

section Copy

variable {a b : Operand} {k i m : Nat} {st st' : Store} {acc : Word}

theorem copyAt_sound (h : (st.at (a.first + k)).sound = true) :
    copyAt st a b k acc = writeAt st b k acc (st.at (a.first + k)).contents := by
  rw [copyAt, readAt_sound h]

theorem copyAt_damaged (h : (st.at (a.first + k)).sound = false) :
    copyAt st a b k acc = .stopped { offset := a.offset + k, table := false } := by
  rw [copyAt, readAt_damaged h]

/-- What the word at address `x` of the destination receives. -/
def copiedWord (a b : Operand) (st : Store) (x : Nat) : Word := (st.at (a.first + (x - b.first))).contents

/-- A COPY that never reaches a source word behind a destination word it wrote. -/
theorem copy_positions {d : Direction} {n : Nat} (hwf : st.wf = true) (hfit : ∀ l, l < m → b.first + d.after^[l] k < storeSize)
    (hapart : ∀ l l', l < l' → l' < m → d.after^[l'] k ≠ d.after^[l] k)
    (hsource : ∀ l l', l < l' → l' ≤ m → l' < n → a.first + d.after^[l'] k ≠ b.first + d.after^[l] k) (hmn : m ≤ n)
    (hsound : ∀ l, l < m → (st.at (a.first + d.after^[l] k)).sound = true)
    (hdamaged : m < n → (st.at (a.first + d.after^[m] k)).sound = false) :
    ∃ st'', st.Overwritten b d k (copiedWord a b st) m st'' ∧ (Job.copy a b).positions d n k st acc =
      { store := st'', acc := acc, done := m, found := none
        fault := if m < n then some { offset := a.offset + d.after^[m] k, table := false } else none
        marks := (List.range m).map fun l =>
          st.changes (b.first + d.after^[l] k) (st.at (a.first + d.after^[l] k)).contents } := by
  have hread {l' : Nat} (hm : l' ≤ m) (hn : l' < n) {st' : Store} (h : st.Overwritten b d k (copiedWord a b st) l' st') :
      st'.at (a.first + d.after^[l'] k) = st.at (a.first + d.after^[l'] k) :=
    h.at_apart fun l hl => hsource l l' hl hm hn
  have hnew (l : Nat) : copiedWord a b st (b.first + d.after^[l] k) = (st.at (a.first + d.after^[l] k)).contents := by
    rw [copiedWord, Nat.add_sub_cancel_left]
  have hrun := Job.positions_writes_all (j := .copy a b) (acc := acc) (f := { offset := a.offset + d.after^[m] k, table := false })
    (new := copiedWord a b st) hwf hfit hapart (fun l hl st' h => ?_) hmn (fun hlt st' h => ?_)
  · simpa only [hnew] using hrun
  · have hat := hread (Nat.le_of_lt hl) (by omega) h
    show copyAt st' a b _ acc = _
    rw [copyAt_sound (by rw [hat]; exact hsound l hl), hat, hnew]
  · have hat := hread (Nat.le_refl m) hlt h
    exact copyAt_damaged (by rw [hat]; exact hdamaged hlt)

/-- The Store and the cursor position a COPY comes to over strides of the given sizes. -/
def copyStrides (a b : Operand) (d : Direction) (sizes : List Nat) (x : Store × Nat) : Store × Nat :=
  sizes.foldl (fun x n => (((Job.copy a b).positions d n x.2 x.1 0).store, d.after^[n] x.2)) x

/-- Strides of a COPY of sound words, each taken from where the last one ended, write what one stride over them all would. -/
theorem copyStrides_overwritten {d : Direction} {k : Nat} (hfit : ∀ l, l < m → b.first + d.after^[l] k < storeSize)
    (hapart : ∀ l l', l < l' → l' < m → d.after^[l'] k ≠ d.after^[l] k)
    (hsource : ∀ l l', l < l' → l' < m → a.first + d.after^[l'] k ≠ b.first + d.after^[l] k)
    (hsound : ∀ l, l < m → (st.at (a.first + d.after^[l] k)).sound = true) :
    ∀ (sizes : List Nat) (i : Nat) (st' : Store), st.Overwritten b d k (copiedWord a b st) i st' → i + sizes.sum ≤ m →
      st.Overwritten b d k (copiedWord a b st) (i + sizes.sum) (copyStrides a b d sizes (st', d.after^[i] k)).1
  | [], _, _, h, _ => h
  | n :: sizes, i, st', h, hsum => by
    rw [List.sum_cons] at hsum ⊢
    have hread {l' : Nat} (hl' : l' < m) {st' : Store} (h : st.Overwritten b d k (copiedWord a b st) l' st') :
        st'.at (a.first + d.after^[l'] k) = st.at (a.first + d.after^[l'] k) :=
      h.at_apart fun l hl => hsource l l' hl hl'
    obtain ⟨st'', hst'', hrun⟩ := Job.positions_writes (j := .copy a b) (acc := 0) (m := i + n)
      (f := { offset := 0, table := false }) (fun l hl => hfit l (by omega)) (fun l l' h h' => hapart l l' h (by omega))
      (fun l hl st' h => by
        have hat := hread (by omega) h
        show copyAt st' a b _ 0 = _
        rw [copyAt_sound (by rw [hat]; exact hsound l (by omega)), hat, copiedWord, Nat.add_sub_cancel_left])
      n i st' h (Nat.le_add_right i n) (Nat.le_refl _) (fun hlt => absurd hlt (Nat.lt_irrefl _))
    have ih := copyStrides_overwritten hfit hapart hsource hsound sizes (i + n) st'' hst'' (by omega)
    have hpos : d.after^[n] (d.after^[i] k) = d.after^[i + n] k := by rw [Nat.add_comm, Function.iterate_add_apply]
    have hfold : copyStrides a b d (n :: sizes) (st', d.after^[i] k) = copyStrides a b d sizes (st'', d.after^[i + n] k) := by
      rw [copyStrides, List.foldl_cons, hrun, hpos]
      rfl
    rw [hfold, ← Nat.add_assoc]
    exact ih

end Copy

/-! ### FIND and FOLD -/

section Reads

variable {a : Operand} {st : Store} {acc : Word}

/-- A FIND passes over sound words at which its test fails. -/
theorem find_positions_skip {t : FindTest} {v m : Word} (r : Nat) : ∀ (n k : Nat),
    (∀ j, j < n → (st.at (a.first + (k + j))).sound = true ∧
      ¬ t.holds ((st.at (a.first + (k + j))).contents &&& m) (v &&& m) = true) →
    (Job.find a t v m).positions .upward (n + r) k st acc =
      { (Job.find a t v m).positions .upward r (k + n) st acc with
        done := ((Job.find a t v m).positions .upward r (k + n) st acc).done + n }
  | 0, k, _ => by rw [Nat.zero_add]; rfl
  | n + 1, k, h => by
    obtain ⟨hsound, hfails⟩ := h 0 (Nat.succ_pos n)
    rw [Nat.add_zero] at hsound hfails
    have ih := find_positions_skip (t := t) (v := v) (m := m) r n (k + 1) fun j hj => by
      rw [Nat.add_assoc, Nat.add_comm 1]; exact h (j + 1) (Nat.succ_lt_succ hj)
    have hpos : (Job.find a t v m).position st k acc = .finished st acc none := by
      show findAt st a t v m k acc = _
      rw [findAt_sound t v m acc hsound, if_neg hfails]
    rw [Nat.add_right_comm, Job.positions_succ, hpos]
    simp only [Direction.after, ih]
    rw [Nat.add_assoc k, Nat.add_comm 1]
    rfl

/-- A FOLD of sound words combines them in ascending order. -/
theorem fold_positions {g : FoldFn} {init : Word} : ∀ (n k i : Nat) (acc : Word), i ≤ n →
    (∀ j, j < i → (st.at (a.first + (k + j))).sound = true) →
    (i < n → (st.at (a.first + (k + i))).sound = false) →
    (Job.fold a g init).positions .upward n k st acc =
      { store := st, done := i, marks := [], found := none
        acc := (List.range' k i).foldl (fun x j => g.combine x (st.at (a.first + j)).contents) acc
        fault := if i < n then some { offset := a.offset + (k + i), table := false } else none }
  | 0, k, i, acc, hi, _, _ => by
    obtain rfl : i = 0 := by omega
    rfl
  | n + 1, k, 0, acc, _, _, hdamaged => by
    have hpos : (Job.fold a g init).position st k acc = .stopped { offset := a.offset + k, table := false } := by
      show foldAt st a g k acc = _
      rw [foldAt, readAt_damaged (k := k) (hdamaged (Nat.succ_pos n))]
    rw [Job.positions_succ, hpos]
    rfl
  | n + 1, k, i + 1, acc, hi, hsound, hdamaged => by
    have hpos : (Job.fold a g init).position st k acc = .finished st (g.combine acc (st.at (a.first + k)).contents) none := by
      show foldAt st a g k acc = _
      rw [foldAt, readAt_sound (k := k) (hsound 0 (Nat.succ_pos i))]
    have hshift (j : Nat) : k + 1 + j = k + (j + 1) := by omega
    have ih := fold_positions (g := g) (init := init) n (k + 1) i (g.combine acc (st.at (a.first + k)).contents) (by omega)
      (fun j hj => by rw [hshift]; exact hsound (j + 1) (by omega)) (fun hlt => by rw [hshift]; exact hdamaged (by omega))
    rw [Job.positions_succ, hpos]
    simp only [Direction.after, ih, hshift, Nat.add_lt_add_iff_right]
    rfl

end Reads

/-! ### APPLY -/

section Apply

variable {a : Operand} {g : ApplyFn} {x : Word} {k : Nat} {st : Store} {acc : Word}

theorem ApplyFn.reads_iff : g.reads = true ↔ g ≠ .set := by cases g <;> decide

/-- SET reads no word, and its new word is the same whatever the old one was (R120). -/
theorem ApplyFn.newWord_set (w w' x : Word) : ApplyFn.set.newWord w x = ApplyFn.set.newWord w' x := rfl

theorem applyAt_writes (h : g ≠ .set → (st.at (a.first + k)).sound = true) :
    applyAt st a g x k acc = writeAt st a k acc (g.newWord (st.at (a.first + k)).contents x) := by
  unfold applyAt
  by_cases hg : g = .set
  · subst hg
    rfl
  · rw [if_pos (ApplyFn.reads_iff.mpr hg), readAt_sound (h hg)]

theorem applyAt_damaged (hg : g ≠ .set) (h : (st.at (a.first + k)).sound = false) :
    applyAt st a g x k acc = .stopped { offset := a.offset + k, table := false } := by
  rw [applyAt, if_pos (ApplyFn.reads_iff.mpr hg), readAt_damaged h]

end Apply

/-- The positions of a stride upward are apart from each other. -/
theorem after_upward_apart (k m : Nat) : ∀ l l', l < l' → l' < m → Direction.upward.after^[l'] k ≠ Direction.upward.after^[l] k := by
  intro l l' hl _
  rw [Direction.after_iterate_upward, Direction.after_iterate_upward]
  omega

/-- So are those of a stride downward that keeps within the operand. -/
theorem after_downward_apart {k m : Nat} (hm : m ≤ k + 1) :
    ∀ l l', l < l' → l' < m → Direction.downward.after^[l'] k ≠ Direction.downward.after^[l] k := by
  intro l l' hl hl'
  rw [Direction.after_iterate_downward, Direction.after_iterate_downward]
  omega

/-- Positions that write no word leave no mark. -/
theorem Job.positions_marks_nil {j : Job Operand} {d : Direction}
    (h : ∀ st k acc st' acc' mark, j.position st k acc = .finished st' acc' mark → mark = none) :
    ∀ (n k : Nat) (st : Store) (acc : Word), (j.positions d n k st acc).marks = []
  | 0, _, _, _ => rfl
  | n + 1, k, st, acc => by
    rw [Job.positions_succ]
    cases hpos : j.position st k acc with
    | finished st' acc' mark =>
      obtain rfl := h _ _ _ _ _ _ hpos
      exact Job.positions_marks_nil h n _ st' acc'
    | stopped f => rfl
    | matched w => rfl

theorem findAt_mark {a : Operand} {t : FindTest} {v m acc acc' : Word} {st st' : Store} {k : Nat} {mark : Option Bool}
    (h : findAt st a t v m k acc = .finished st' acc' mark) : mark = none := by
  unfold findAt at h
  split at h
  · cases h
  · split at h <;> cases h
    rfl

theorem foldAt_mark {a : Operand} {g : FoldFn} {acc acc' : Word} {st st' : Store} {k : Nat} {mark : Option Bool}
    (h : foldAt st a g k acc = .finished st' acc' mark) : mark = none := by
  unfold foldAt at h
  split at h <;> cases h
  rfl

/-! ### MAP -/

section Map

variable {a t : Operand} {mode : MapMode} {k : Nat} {w : Word} {st st' : Store} {acc : Word} {x : Octet}

/-- The entry of an octet in a MAP table. -/
def mapEntry (st : Store) (t : Operand) (x : Octet) : StoreWord := st.at (t.first + x.toNat)

/-- The octet that a table's entry puts in the place of an octet (R122). -/
def mapOctet (st : Store) (t : Operand) (x : Octet) : Octet := (mapEntry st t x).contents.extractLsb' 0 8

/-- The octets of a word whose entries a MAP consults, in order (R122, R123). -/
def consultedOctets (mode : MapMode) (w : Word) : List Octet :=
  match mode with
  | .low => [w.extractLsb' 0 8]
  | .all => [w.extractLsb' 0 8, w.extractLsb' 8 8, w.extractLsb' 16 8, w.extractLsb' 24 8]

/-- The word that a MAP over sound entries puts in a word's place (R122). -/
def mappedWord (st : Store) (t : Operand) (mode : MapMode) (w : Word) : Word :=
  match mode with
  | .low => word (w.extractLsb' 24 8) (w.extractLsb' 16 8) (w.extractLsb' 8 8) (mapOctet st t (w.extractLsb' 0 8))
  | .all => word (mapOctet st t (w.extractLsb' 24 8)) (mapOctet st t (w.extractLsb' 16 8)) (mapOctet st t (w.extractLsb' 8 8))
      (mapOctet st t (w.extractLsb' 0 8))

theorem image_sound (h : (mapEntry st t x).sound = true) : image st t x = .ok (mapOctet st t x) := by
  rw [image, Store.read_sound h]
  rfl

theorem image_damaged (h : (mapEntry st t x).sound = false) :
    image st t x = .error { offset := t.offset + x.toNat, table := true } := by
  rw [image, Store.read_damaged h]

theorem image_congr (h : ∀ x : Octet, mapEntry st' t x = mapEntry st t x) : image st' t x = image st t x := by
  cases hx : (mapEntry st t x).sound with
  | true => rw [image_sound hx, image_sound (by rw [h, hx]), mapOctet, mapOctet, h]
  | false => rw [image_damaged hx, image_damaged (by rw [h, hx])]

theorem mapWord_congr (h : ∀ x : Octet, mapEntry st' t x = mapEntry st t x) : mapWord st' t mode w = mapWord st t mode w := by
  simp only [mapWord, image_congr h]

theorem mapWord_sound (h : ∀ x ∈ consultedOctets mode w, (mapEntry st t x).sound = true) :
    mapWord st t mode w = .ok (mappedWord st t mode w) := by
  cases mode with
  | low =>
    simp only [consultedOctets, List.forall_mem_cons] at h
    rw [mapWord, image_sound h.1]
    rfl
  | all =>
    simp only [consultedOctets, List.forall_mem_cons] at h
    obtain ⟨h0, h1, h2, h3, -⟩ := h
    rw [mapWord, image_sound h0, image_sound h1, image_sound h2, image_sound h3]
    rfl

/-- The first damaged entry that the word consults stops the MAP (R123, R124). -/
theorem mapWord_damaged (h : (consultedOctets mode w).find? (fun x => !(mapEntry st t x).sound) = some x) :
    mapWord st t mode w = .error { offset := t.offset + x.toNat, table := true } := by
  have first {y : Octet} {ys : List Octet} (h : (y :: ys).find? (fun x => !(mapEntry st t x).sound) = some x) :
      (mapEntry st t y).sound = false ∧ y = x ∨
        (mapEntry st t y).sound = true ∧ ys.find? (fun x => !(mapEntry st t x).sound) = some x := by
    cases hy : (mapEntry st t y).sound <;> simpa [List.find?_cons, hy] using h
  cases mode with
  | low =>
    rcases first h with ⟨h0, rfl⟩ | ⟨-, h⟩
    · rw [mapWord, image_damaged h0]; rfl
    · cases h
  | all =>
    rcases first h with ⟨h0, rfl⟩ | ⟨h0, h⟩
    · rw [mapWord, image_damaged h0]; rfl
    rcases first h with ⟨h1, rfl⟩ | ⟨h1, h⟩
    · rw [mapWord, image_sound h0, image_damaged h1]; rfl
    rcases first h with ⟨h2, rfl⟩ | ⟨h2, h⟩
    · rw [mapWord, image_sound h0, image_sound h1, image_damaged h2]; rfl
    rcases first h with ⟨h3, rfl⟩ | ⟨-, h⟩
    · rw [mapWord, image_sound h0, image_sound h1, image_sound h2, image_damaged h3]; rfl
    · cases h

/-- The octets of a word spelled by four octets. -/
theorem octets_word (a b c d : Octet) : (word a b c d).extractLsb' 24 8 = a ∧ (word a b c d).extractLsb' 16 8 = b ∧
    (word a b c d).extractLsb' 8 8 = c ∧ (word a b c d).extractLsb' 0 8 = d := by
  simpa [wordOctets] using wordOctets_word a b c d

theorem octet_mappedWord {q : Nat} (hq : q < 4) : (mappedWord st t mode w).extractLsb' (8 * q) 8 =
    if q = 0 ∨ mode = .all then mapOctet st t (w.extractLsb' (8 * q) 8) else w.extractLsb' (8 * q) 8 := by
  cases mode with
  | low =>
    obtain ⟨h3, h2, h1, h0⟩ := octets_word (w.extractLsb' 24 8) (w.extractLsb' 16 8) (w.extractLsb' 8 8)
      (mapOctet st t (w.extractLsb' 0 8))
    interval_cases q
    · exact h0
    · exact h1
    · exact h2
    · exact h3
  | all =>
    obtain ⟨h3, h2, h1, h0⟩ := octets_word (mapOctet st t (w.extractLsb' 24 8)) (mapOctet st t (w.extractLsb' 16 8))
      (mapOctet st t (w.extractLsb' 8 8)) (mapOctet st t (w.extractLsb' 0 8))
    interval_cases q
    · exact h0
    · exact h1
    · exact h2
    · exact h3

theorem mapAt_whole (hsound : (st.at (a.first + k)).sound = true)
    (hentries : ∀ x ∈ consultedOctets mode (st.at (a.first + k)).contents, (mapEntry st t x).sound = true) :
    mapAt st a t mode k acc = writeAt st a k acc (mappedWord st t mode (st.at (a.first + k)).contents) := by
  simp only [mapAt, readAt_sound hsound, mapWord_sound hentries]

theorem mapAt_damaged (h : (st.at (a.first + k)).sound = false) :
    mapAt st a t mode k acc = .stopped { offset := a.offset + k, table := false } := by
  simp only [mapAt, readAt_damaged h]

theorem mapAt_entry_damaged (hsound : (st.at (a.first + k)).sound = true)
    (h : (consultedOctets mode (st.at (a.first + k)).contents).find? (fun x => !(mapEntry st t x).sound) = some x) :
    mapAt st a t mode k acc = .stopped { offset := t.offset + x.toNat, table := true } := by
  simp only [mapAt, readAt_sound hsound, mapWord_damaged h]

theorem mappedWord_congr (h : ∀ x : Octet, mapEntry st' t x = mapEntry st t x) :
    mappedWord st' t mode w = mappedWord st t mode w := by
  simp only [mappedWord, mapOctet, h]

/-- A stride of a MAP over a range apart from its table: each position's new word is made of the table as the stride found it. -/
theorem map_positions {i n : Nat} {f : StrideFault} (hwf : st.wf = true) (hi : i ≤ n) (hfit : a.first + (k + n) ≤ 65536)
    (hapart : a.first + (k + n) ≤ t.first ∨ t.first + 256 ≤ a.first + k)
    (hwhole : ∀ l, l < i → (st.at (a.first + (k + l))).sound = true ∧
      ∀ x ∈ consultedOctets mode (st.at (a.first + (k + l))).contents, (mapEntry st t x).sound = true)
    (hstop : i < n → ∀ st', st'.at (a.first + (k + i)) = st.at (a.first + (k + i)) →
      (∀ x : Octet, mapEntry st' t x = mapEntry st t x) → mapAt st' a t mode (k + i) acc = .stopped f) :
    ∃ st'', st.Overwritten a .upward k (fun b => mappedWord st t mode (st.at b).contents) i st'' ∧
      (Job.map a t mode).positions .upward n k st acc =
        { store := st'', acc := acc, done := i, found := none, fault := if i < n then some f else none
          marks := (List.range i).map fun l =>
            st.changes (a.first + (k + l)) (mappedWord st t mode (st.at (a.first + (k + l))).contents) } := by
  have hword {l : Nat} {st' : Store} (h : st.Overwritten a .upward k (fun b => mappedWord st t mode (st.at b).contents) l st') :
      st'.at (a.first + (k + l)) = st.at (a.first + (k + l)) :=
    h.at_apart fun l' hl' => by rw [Direction.after_iterate_upward]; omega
  have htable {l : Nat} (hl : l ≤ n) {st' : Store}
      (h : st.Overwritten a .upward k (fun b => mappedWord st t mode (st.at b).contents) l st') (x : Octet) :
      mapEntry st' t x = mapEntry st t x :=
    h.at_apart fun l' hl' => by
      have := x.isLt
      rw [Direction.after_iterate_upward]
      omega
  have hrun := Job.positions_writes_all (j := .map a t mode) (o := a) (d := .upward) (k := k) (acc := acc) (m := i) (n := n)
    (new := fun b => mappedWord st t mode (st.at b).contents) (f := f) hwf
    (fun l hl => by rw [Direction.after_iterate_upward, storeSize]; omega) (after_upward_apart k i)
    (fun l hl st' h => by
      obtain ⟨hsound, hentries⟩ := hwhole l hl
      have hat := hword h
      have hentry := htable (by omega) h
      rw [Direction.after_iterate_upward]
      show mapAt st' a t mode _ acc = _
      rw [mapAt_whole (by rw [hat]; exact hsound) (by rw [hat]; simpa only [hentry] using hentries), hat, mappedWord_congr hentry])
    hi
    (fun hlt st' h => by
      rw [Direction.after_iterate_upward]
      exact hstop hlt st' (hword h) (htable hi h))
  simpa only [Direction.after_iterate_upward] using hrun

end Map

theorem reportOf_eq (writer : LinkId) (first : Nat) (marks : List Bool) : reportOf writer first marks =
    if marks = [] then none else some { writer := writer, first := first, marks := marks } := rfl

end Sys2Proof.Machine

namespace Sys2Proof.Proofs

open Sys2Proof Sys2Proof.Machine

/-- Settles O33: the words passed over, then what the next one is. -/
theorem findReportsTheLowestMatch : Obligations.FindReportsTheLowestMatch := by
  intro a t v m n k st acc word sound passes run
  have hskip (i : Nat) (h : ∀ j, j < i → sound j ∧ ¬ passes j) (r : Nat) (hn : n = i + r) : run =
      { (Job.find a t v m).positions .upward r (k + i) st acc with
        done := ((Job.find a t v m).positions .upward r (k + i) st acc).done + i } := by
    show (Job.find a t v m).positions .upward n k st acc = _
    rw [hn, find_positions_skip r i k h]
  refine ⟨fun i hi hsound hfails hpass => ?_, fun i hi hbefore hdamaged => ?_, fun hall => ?_⟩
  · obtain ⟨r, rfl⟩ : ∃ r, n = i + (r + 1) := ⟨n - i - 1, by omega⟩
    have hpos : (Job.find a t v m).position st (k + i) acc = .matched (word i) := by
      show findAt st a t v m (k + i) acc = _
      rw [findAt_sound t v m acc (hsound i (Nat.le_refl i)), if_pos hpass]
    rw [hskip i (fun j hj => ⟨hsound j (Nat.le_of_lt hj), hfails j hj⟩) (r + 1) rfl, Job.positions_succ, hpos]
    simp only [Nat.add_comm 1]
  · obtain ⟨r, rfl⟩ : ∃ r, n = i + (r + 1) := ⟨n - i - 1, by omega⟩
    have hpos : (Job.find a t v m).position st (k + i) acc = .stopped { offset := a.offset + (k + i), table := false } := by
      show findAt st a t v m (k + i) acc = _
      rw [findAt_damaged t v m acc (Bool.not_eq_true _ ▸ hdamaged)]
    rw [hskip i hbefore (r + 1) rfl, Job.positions_succ, hpos]
    simp only [Nat.zero_add]
  · rw [hskip n hall 0 rfl]
    simp only [Job.positions, Nat.zero_add]

/-- Settles O34: `fold_positions` at the words before the first damaged one. -/
theorem foldAccumulates : Obligations.FoldAccumulates := by
  intro a g init n k i st acc hi hsound hdamaged
  rw [fold_positions n k i acc hi hsound hdamaged]
  congr 1
  rw [List.range'_eq_map_range, List.foldl_map]
  cases g <;> rfl

/-- Settles O35: each word is written from the word the Store held before, up to the first that cannot be read. -/
theorem applyRewrites : Obligations.ApplyRewrites := by
  intro a g x n k i st acc hi hfit hwf hsound hstop new run
  have hnew (w : Word) : g.newWord w x = new w := by cases g <;> rfl
  have hread {l : Nat} (hl : l < n) {st' : Store} (h : st.Overwritten a .upward k (fun b => new (st.at b).contents) l st') :
      st'.at (a.first + Direction.upward.after^[l] k) = st.at (a.first + Direction.upward.after^[l] k) :=
    h.at_apart fun l' hl' heq => after_upward_apart k n l' l hl' hl (Nat.add_left_cancel heq)
  obtain ⟨st'', hst'', hrun⟩ := Job.positions_writes_all (j := .apply a g x) (o := a) (d := .upward) (k := k) (acc := acc) (m := i)
    (n := n) (new := fun b => new (st.at b).contents) (f := { offset := a.offset + (k + i), table := false }) hwf
    (fun l hl => by rw [Direction.after_iterate_upward, storeSize]; omega) (after_upward_apart k i)
    (fun l hl st' h => by
      have hat := hread (by omega) h
      show applyAt st' a g x _ acc = _
      rw [applyAt_writes (fun hg => by rw [hat, Direction.after_iterate_upward]; exact hsound hg l hl), hat, hnew])
    hi
    (fun hlt st' h => by
      obtain ⟨hg, hdamaged⟩ := hstop hlt
      have hat := hread hlt h
      show applyAt st' a g x _ acc = _
      rw [applyAt_damaged hg (by rw [hat, Direction.after_iterate_upward]; exact hdamaged), Direction.after_iterate_upward])
  have hrun' : run = _ := hrun
  rw [hrun']
  refine ⟨rfl, rfl, rfl, hst''.wf, rfl, fun b => hst''.at_upward b, ?_⟩
  simp only [Direction.after_iterate_upward, Store.changes_eq]

/-- Settles O36: the three ways a stride ends differ in what its last position came to alone. -/
theorem mapTranslates : Obligations.MapTranslates := by
  intro a t mode n k i st acc hi hwf hfit htable hapart octetOf consulted entry whole hwhole run done
  have hconsulted (w : Word) : consulted w = consultedOctets mode w := by cases mode <;> rfl
  have hends (f : StrideFault)
      (hstop : i < n → ∀ st', st'.at (a.first + (k + i)) = st.at (a.first + (k + i)) →
        (∀ x : Octet, mapEntry st' t x = mapEntry st t x) → mapAt st' a t mode (k + i) acc = .stopped f) :
      done ∧ run.fault = if i < n then some f else none := by
    obtain ⟨st'', hst'', hrun⟩ := map_positions (acc := acc) (mode := mode) (f := f) hwf hi hfit hapart
      (fun l hl => by
        obtain ⟨hsound, hentries⟩ := hwhole l hl
        rw [hconsulted] at hentries
        exact ⟨hsound, hentries⟩) hstop
    have hrun' : run = _ := hrun
    have hat := hst''.at_upward
    refine ⟨⟨by rw [hrun'], by rw [hrun'], by rw [hrun']; exact hst''.wf, ?_, fun b hb => ?_, fun b hlo hhi => ?_⟩, by rw [hrun']⟩
    · rw [hrun']
      refine List.map_congr_left fun l hl => ?_
      have hl := List.mem_range.mp hl
      rw [hat, if_pos (by omega), Store.changes_eq, (hwhole l hl).1]
      simp
    · rw [hrun', hat, if_neg hb]
    · rw [hrun', hat, if_pos ⟨hlo, hhi⟩]
      exact ⟨rfl, fun q hq => octet_mappedWord hq⟩
  refine ⟨fun hall => ?_, fun hlt hdamaged => ?_, fun hlt hsound e he => ?_⟩
  · have h := hends { offset := 0, table := false } fun hlt => absurd hall (Nat.ne_of_lt hlt)
    rwa [if_neg (by omega)] at h
  · have h := hends _ fun _ st' hat _ => mapAt_damaged (by rw [hat]; exact hdamaged)
    rwa [if_pos hlt] at h
  · have h := hends { offset := t.offset + e.toNat, table := true } fun _ st' hat hentry =>
      mapAt_entry_damaged (by rw [hat]; exact hsound) (by
        rw [hat]
        rw [hconsulted] at he
        simp only [hentry]
        exact he)
    rwa [if_pos hlt] at h

/-- Settles O31: the direction fixed at admission keeps the source words still to be read apart from the words written. -/
theorem copyMovesItsRange : Obligations.CopyMovesItsRange := by
  intro a b st sizes hcount hsum hsource hfit hwf hsound c last
  have hover : a.overlaps b = true ↔ a.first < b.first + b.count ∧ b.first < a.first + a.count ∧ 0 < a.count ∧ 0 < b.count := by
    simp only [Operand.overlaps, rangesOverlap, Bool.and_eq_true, decide_eq_true_eq, and_assoc]
  have hcopied (x : Nat) : ({ contents := copiedWord a b st x, sound := true } : StoreWord) =
      { contents := (st.at (a.first + (x - b.first))).contents, sound := true } := rfl
  cases hdir : copyDirection a b with
  | upward =>
    have hnot : ¬ (a.first < b.first ∧ b.first < a.first + a.count) := fun h => by
      have hab : a.overlaps b = true := hover.mpr (by omega)
      simp [copyDirection, hab, h.1] at hdir
    have hc : c = { done := 0, next := 0, acc := 0, dir := .upward } := by simp only [c, Job.startCursor, hdir]
    have hall := copyStrides_overwritten (a := a) (b := b) (st := st) (m := a.count) (d := .upward) (k := 0)
      (fun l hl => by rw [Direction.after_iterate_upward, storeSize]; omega) (after_upward_apart 0 _)
      (fun l l' hl hl' => by
        rw [Direction.after_iterate_upward, Direction.after_iterate_upward]
        exact fun heq => hnot ⟨by omega, by omega⟩)
      (fun l hl => by rw [Direction.after_iterate_upward, Nat.zero_add]; exact hsound l hl) sizes 0 st
      (Store.overwritten_zero hwf) (by omega)
    have hlast : last = copyStrides a b .upward sizes (st, 0) := by simp only [last, hc, copyStrides]
    rw [hlast]
    refine ⟨hall.wf, fun x => ?_⟩
    rw [← hcopied]
    refine (hall.at_upward x).trans (if_congr ?_ rfl rfl)
    omega
  | downward =>
    have hab : a.first < b.first := by
      by_contra h
      simp [copyDirection, h] at hdir
    have hpos : 0 < a.count := by
      have : a.overlaps b = true := by
        by_contra h
        simp [copyDirection, h] at hdir
      exact (hover.mp this).2.2.1
    have hc : c = { done := 0, next := a.count - 1, acc := 0, dir := .downward } := by simp only [c, Job.startCursor, hdir]
    have hall := copyStrides_overwritten (a := a) (b := b) (st := st) (m := a.count) (d := .downward) (k := a.count - 1)
      (fun l hl => by rw [Direction.after_iterate_downward, storeSize]; omega) (after_downward_apart (by omega))
      (fun l l' hl hl' => by
        rw [Direction.after_iterate_downward, Direction.after_iterate_downward]
        omega)
      (fun l hl => by rw [Direction.after_iterate_downward]; exact hsound _ (by omega)) sizes 0 st
      (Store.overwritten_zero hwf) (by omega)
    have hlast : last = copyStrides a b .downward sizes (st, a.count - 1) := by simp only [last, hc, copyStrides]
    rw [hlast]
    refine ⟨hall.wf, fun x => ?_⟩
    rw [← hcopied]
    refine (hall.at_downward (by omega) x).trans (if_congr ?_ rfl rfl)
    omega

/-- Settles O30: the report from the marks, by the direction, and the words a COPY stride writes. -/
theorem stridesReportTheirWords : Obligations.StridesReportTheirWords := by
  refine ⟨fun r sl st => rfl, fun r sl run o hjob => ?_, fun r sl st hjob => ?_, fun a b n k i st acc hi hwf => ?_⟩
  · have hwritten : sl.job.written = o := by
      rcases hjob with ⟨a, h⟩ | ⟨g, x, h⟩ | ⟨t, m, h⟩ <;> rw [h] <;> rfl
    refine ⟨fun hnone => ?_, fun hne hup => ?_, fun hne hdown hle => ?_⟩
    · rw [Stride.report, hnone]
      cases sl.cursor.dir <;> rfl
    · simp only [Stride.report, hup, reportOf_eq, if_neg hne, hwritten]
    · have hne' : run.marks.reverse ≠ [] := fun h => hne (List.reverse_eq_nil_iff.mp h)
      simp only [Stride.report, hdown, reportOf_eq, if_neg hne', hwritten]
      rw [Nat.add_assoc, Nat.add_sub_assoc hle]
  · have hmarks : (r.run sl st).marks = [] := by
      rcases hjob with ⟨a, t, v, m, h⟩ | ⟨a, g, v, h⟩
      · exact Job.positions_marks_nil (fun st k acc st' acc' mark hpos => by rw [h] at hpos; exact findAt_mark hpos) _ _ _ _
      · exact Job.positions_marks_nil (fun st k acc st' acc' mark hpos => by rw [h] at hpos; exact foldAt_mark hpos) _ _ _ _
    rw [Stride.report, hmarks]
    cases sl.cursor.dir <;> rfl
  · intro changed copied above
    refine ⟨fun hnot hcount hfit hsound hdamaged => ?_, fun hab hcount hn hfit hsound hdamaged => ?_⟩
    · obtain ⟨st'', hst'', hrun⟩ := copy_positions (a := a) (b := b) (d := .upward) (k := k) (n := n) (m := i) (acc := acc) hwf
        (fun l hl => by rw [Direction.after_iterate_upward, storeSize]; omega) (after_upward_apart k i)
        (fun l l' hl hl' hn => by
          rw [Direction.after_iterate_upward, Direction.after_iterate_upward]
          exact fun heq => hnot ⟨by omega, by omega⟩)
        hi (by simpa only [Direction.after_iterate_upward] using hsound)
        (by simpa only [Direction.after_iterate_upward] using hdamaged)
      intro run
      have hrun' : run = _ := hrun
      rw [hrun']
      refine ⟨rfl, rfl, rfl, hst''.wf, by simp only [Direction.after_iterate_upward], fun x => ?_, ?_⟩
      · rw [hst''.at_upward, Nat.add_assoc]
        rfl
      · simp only [Direction.after_iterate_upward, Store.changes_eq, changed]
    · obtain ⟨st'', hst'', hrun⟩ := copy_positions (a := a) (b := b) (d := .downward) (k := k) (n := n) (m := i) (acc := acc) hwf
        (fun l hl => by rw [Direction.after_iterate_downward, storeSize]; omega) (after_downward_apart (by omega))
        (fun l l' hl hl' hn => by
          rw [Direction.after_iterate_downward, Direction.after_iterate_downward]
          have := hab.1
          omega)
        hi (by simpa only [Direction.after_iterate_downward] using hsound)
        (by simpa only [Direction.after_iterate_downward] using hdamaged)
      intro run
      have hrun' : run = _ := hrun
      rw [hrun']
      refine ⟨rfl, rfl, rfl, hst''.wf, by simp only [Direction.after_iterate_downward], fun x => ?_, ?_⟩
      · exact hst''.at_downward (by omega) x
      · simp only [Direction.after_iterate_downward, Store.changes_eq, changed]

end Sys2Proof.Proofs
end

section
/-! PROOFS. Frames as bits: the CRC (R165), the checks of R163, the frame of a row (R160, R162), and the frames the part sends
(R168, R176, R177). -/

namespace Sys2Proof.Machine

variable {s t : State}

/-! ### Octets and bits -/

theorem octetBits_eq (o : Octet) : octetBits o = (List.range 8).map fun i => o.getLsbD (7 - i) := rfl

theorem bitsOf_eq (os : List Octet) : bitsOf os = os.flatMap fun o => (List.range 8).map fun i => o.getLsbD (7 - i) := rfl

theorem bitsOf_cons (o : Octet) (os : List Octet) : bitsOf (o :: os) = octetBits o ++ bitsOf os := List.flatMap_cons

theorem octetBits_octetOf (b7 b6 b5 b4 b3 b2 b1 b0 : Bool) :
    octetBits (octetOf b7 b6 b5 b4 b3 b2 b1 b0) = [b7, b6, b5, b4, b3, b2, b1, b0] := by
  simp only [octetBits, octetOf, BitVec.getLsbD_append, BitVec.getLsbD_ofBool]
  simp

/-- Bits that make whole octets are the bits of those octets. -/
theorem bitsOf_octetsOf : ∀ (n : Nat) (bits : List Bool), bits.length = 8 * n → bitsOf (octetsOf bits) = bits
  | 0, [], _ => rfl
  | n + 1, bits, h => by
    have h : bits.length = 8 * n + 8 := h
    match bits, h with
    | b7 :: b6 :: b5 :: b4 :: b3 :: b2 :: b1 :: b0 :: rest, h =>
      have ih := bitsOf_octetsOf n rest (by simpa using h)
      rw [octetsOf, bitsOf_cons, octetBits_octetOf, ih]
      rfl

theorem octetsOf_length {n : Nat} {bits : List Bool} (h : bits.length = 8 * n) : (octetsOf bits).length = n := by
  have hbits := congrArg List.length (bitsOf_octetsOf n bits h)
  rw [bitsOf_length, h] at hbits
  omega

/-! ### The CRC -/

theorem crcBit_same {r : Half} {b : Bool} (h : r.getLsbD 15 = b) : crcBit r b = r <<< 1 := by
  rw [crcBit, h, bne_self_eq_false]
  rfl

theorem crcBit_differ {r : Half} {b : Bool} (h : r.getLsbD 15 ≠ b) : crcBit r b = (r <<< 1) ^^^ 0x1021 := by
  rw [crcBit, if_pos (bne_iff_ne.mpr h)]

/-- The first bits of a register, most significant first. -/
def registerBits (r : Half) (n : Nat) : List Bool := (List.range n).map fun i => r.getLsbD (15 - i)

theorem bitsOf_halfOctets (r : Half) : bitsOf (halfOctets r) = registerBits r 16 := by
  simp [bitsOf, halfOctets, octetBits, registerBits, List.range_succ]

theorem crcFrom_append (r : Half) (a b : List Bool) : crcFrom r (a ++ b) = crcFrom (crcFrom r a) b := List.foldl_append

theorem crc_append (os os' : List Octet) : crc (os ++ os') = crcFrom (crc os) (bitsOf os') := by
  rw [crc, bitsOf_append, crcFrom_append, ← crc]

/-- A register that takes its own leading bits is shifted out (R165). -/
theorem crcFrom_registerBits (r : Half) : ∀ n, n ≤ 16 → crcFrom r (registerBits r n) = r <<< n
  | 0, _ => by rw [BitVec.shiftLeft_zero]; rfl
  | n + 1, h => by
    have ih := crcFrom_registerBits r n (by omega)
    have hlead : (r <<< n).getLsbD 15 = r.getLsbD (15 - n) := by
      rw [BitVec.getLsbD_shiftLeft, decide_eq_true (show 15 < 16 by omega), decide_eq_false (show ¬ 15 < n by omega)]
      rfl
    have hbits : registerBits r (n + 1) = registerBits r n ++ [r.getLsbD (15 - n)] := by
      simp [registerBits, List.range_succ]
    rw [hbits, crcFrom_append, ih, BitVec.shiftLeft_add]
    exact crcBit_same hlead

/-- Only a register's own leading bits, up to its sixteen, take it to 0: a bit that differs leaves 1021h's least significant
bit, which the bits that follow are too few to shift out. -/
theorem eq_registerBits_of_crcFrom : ∀ (bits : List Bool) (r : Half), bits.length ≤ 16 → crcFrom r bits = 0 →
    bits = registerBits r bits.length ∧ r <<< bits.length = 0
  | [], r, _, h => ⟨rfl, by simpa [crcFrom] using h⟩
  | b :: bits, r, hlen, h => by
    rw [List.length_cons] at hlen
    obtain ⟨hbits, hzero⟩ := eq_registerBits_of_crcFrom bits (crcBit r b) (by omega) h
    have hlead : r.getLsbD 15 = b := by
      by_contra hne
      have hbit : ((crcBit r b) <<< bits.length).getLsbD bits.length = true := by
        rw [crcBit_differ hne, BitVec.getLsbD_shiftLeft, Nat.sub_self, BitVec.getLsbD_xor, BitVec.getLsbD_shiftLeft,
          decide_eq_true (show bits.length < 16 by omega), decide_eq_false (Nat.lt_irrefl bits.length)]
        rfl
      rw [hzero] at hbit
      exact absurd hbit (by simp)
    have hstep := crcBit_same hlead
    rw [hstep] at hbits hzero
    constructor
    · rw [List.length_cons, registerBits, List.range_succ_eq_map, List.map_cons, Nat.sub_zero, hlead, List.map_map]
      congr 1
      refine hbits.trans (List.map_congr_left fun i hi => ?_)
      have hi : i < bits.length := List.mem_range.mp hi
      rw [BitVec.getLsbD_shiftLeft, decide_eq_true (show 15 - i < 16 by omega), decide_eq_false (show ¬ 15 - i < 1 by omega),
        Nat.sub_sub]
      rfl
    · rw [List.length_cons, Nat.add_comm, BitVec.shiftLeft_add]
      exact hzero

theorem crc_withCrc (os : List Octet) : crc (withCrc os) = 0 := by
  rw [withCrc, crc_append, bitsOf_halfOctets, crcFrom_registerBits _ 16 (Nat.le_refl 16)]
  exact BitVec.shiftLeft_eq_zero (Nat.le_refl 16)

/-- Two octets that take the CRC to 0 are the CRC of the octets before them. -/
theorem bitsOf_pair_of_crc {os pair : List Octet} (hpair : pair.length = 2) (h : crc (os ++ pair) = 0) :
    bitsOf pair = bitsOf (halfOctets (crc os)) := by
  have hlen : (bitsOf pair).length = 16 := by rw [bitsOf_length, hpair]
  rw [crc_append] at h
  obtain ⟨hbits, -⟩ := eq_registerBits_of_crcFrom _ _ (by omega) h
  rw [bitsOf_halfOctets, hbits, hlen]

/-! ### Request frames -/

theorem requestOctets_length (f : Frame) : (requestOctets f).length = 5 + f.payload.length := by
  simp [requestOctets, halfOctets]
  omega

theorem frameOf_requestOctets (f : Frame) : frameOf (requestOctets f) = some f := by
  simp only [requestOctets, halfOctets, List.cons_append, List.nil_append, frameOf, half_octets]

theorem requestOctets_of_frameOf {os : List Octet} (h : 5 ≤ os.length) :
    ∃ f, frameOf os = some f ∧ requestOctets f = os := by
  match os, h with
  | k :: fl :: t :: l1 :: l0 :: payload, _ =>
    exact ⟨_, rfl, by simp only [requestOctets, halfOctets, half_high, half_low, List.cons_append, List.nil_append]⟩

theorem withCrc_length (os : List Octet) : (withCrc os).length = os.length + 2 := by
  rw [withCrc, List.length_append]
  rfl

theorem receiveBits_requestBits (f : Frame) : receiveBits (requestBits f) = receiveFrame f := by
  have hlen : (requestBits f).length = 8 * (7 + f.payload.length) := by
    rw [requestBits, bitsOf_length, withCrc_length, requestOctets_length]
    omega
  have hoctets : octetsOf (requestBits f) = withCrc (requestOctets f) := octetsOf_bitsOf _
  have htake : (withCrc (requestOctets f)).take ((requestBits f).length / 8 - 2) = requestOctets f := by
    rw [withCrc, List.take_append_of_le_length (by rw [requestOctets_length]; omega), List.take_of_length_le]
    rw [requestOctets_length]
    omega
  unfold receiveBits
  rw [if_neg (by omega), if_neg (by omega), hoctets, htake, crc_withCrc, frameOf_requestOctets, receiveFrame_eq]
  by_cases hfits : f.payload.length ≤ 260
  · rw [if_neg (by omega), if_neg (by decide), if_pos hfits]
  · rw [if_pos (by omega), if_neg hfits]

/-! ### What a settled part does -/

theorem Link.arbitrate_quiet {l : Link} (h : l.arbiterQuiet = true) : l.arbitrate = l := by
  unfold Link.arbitrate
  simp only [Link.arbiterQuiet, Bool.or_eq_true, decide_eq_true_eq, Bool.and_eq_true, List.isEmpty_iff] at h
  split
  · rfl
  · rename_i hbusy
    obtain ⟨hreplies, hnotices⟩ := h.resolve_left hbusy
    simp [hreplies, hnotices]

theorem State.intake_of_not_waits {n : LinkId} (h : s.intakeWaits n = false) : s.intake n = s := by
  unfold State.intake
  split
  · rfl
  · rename_i hbox
    have hable : s.intakeAble n = false := by simpa [State.intakeWaits, hbox] using h
    rw [hable]
    rfl

theorem State.settled_iff : s.settled = true ↔ s.resetsQuiet = true ∧ s.engineQuiet = true ∧ s.portQuiet = true ∧
    (∀ n, s.intakeWaits n = false) ∧ ∀ n, (s.link n).arbiterQuiet = true := by
  simp [State.settled, State.frameWaits, mem_linkIds, and_assoc]

/-- In a settled part nothing follows from an event that changes no more than receivers. -/
theorem State.settle_updLink_receiver {n : LinkId} {f : Link → Link} (h : s.settled = true)
    (hf : ∀ l, ∃ r, f l = { l with receiver := r }) : (s.updLink n f).settle = s.updLink n f := by
  obtain ⟨hresets, hengine, hport, hwaits, harbiters⟩ := State.settled_iff.mp h
  have hkeeps {α : Type} (p : Link → α) (hp : ∀ l r, p { l with receiver := r } = p l) (m : LinkId) :
      p ((s.updLink n f).link m) = p (s.link m) := by
    rw [State.link_updLink]
    split
    · rename_i hm
      obtain ⟨r, hr⟩ := hf (s.link m)
      rw [hr, hp]
    · rfl
  have hreact : (s.updLink n f).react = s.updLink n f :=
    State.react_congr (s := s) (fun i => hkeeps (fun l => l.slot i.idx) (fun _ _ => rfl) i.link)
      (hkeeps Link.status fun _ _ => rfl) rfl rfl hresets hengine hport
  have hidle (m : LinkId) : (s.updLink n f).intake m = s.updLink n f := by
    refine State.intake_of_not_waits (Eq.trans ?_ (hwaits m))
    rw [State.intakeWaits, State.intakeWaits, State.intakeAble, State.intakeAble, hkeeps Link.inbox fun _ _ => rfl,
      hkeeps Link.status fun _ _ => rfl, hkeeps Link.freePlaces fun _ _ => rfl]
    rfl
  have harbitrate : (s.updLink n f).arbitrate = s.updLink n f := by
    have hlinks : (s.updLink n f).arbitrate.links = (s.updLink n f).links := State.links_ext fun m => by
      rw [State.arbitrate, State.link_mapLinks]
      exact Link.arbitrate_quiet ((hkeeps Link.arbiterQuiet (fun _ _ => rfl) m).trans (harbiters m))
    have hrest : (s.updLink n f).arbitrate = { s.updLink n f with links := (s.updLink n f).arbitrate.links } := rfl
    rw [hrest, hlinks]
  simp only [State.settle, hreact, foldl_linkIds, hidle, harbitrate]

end Sys2Proof.Machine

namespace Sys2Proof.Proofs

open Sys2Proof Sys2Proof.Machine

/-- Settles O3: the register that takes its own bits is shifted out. -/
theorem crcOverWholeFrameIsZero : Obligations.CrcOverWholeFrameIsZero := by
  refine ⟨by decide +kernel, fun os => ?_, crc_withCrc⟩
  have hbit : crcBit = fun (r : Half) b => if r.getLsbD 15 = b then r <<< 1 else (r <<< 1) ^^^ 0x1021 := by
    funext r b
    by_cases h : r.getLsbD 15 = b
    · rw [crcBit_same h, if_pos h]
    · rw [crcBit_differ h, if_neg h]
  rw [crc, crcFrom, hbit, bitsOf_eq]

/-- Settles O4: the octets of a frame survive its bits, and its CRC leaves 0. -/
theorem sentFrameIsReceived : Obligations.SentFrameIsReceived := fun f =>
  ⟨(receiveBits_requestBits f).trans (receiveFrame_eq f), rfl⟩

/-- Settles O5: the checks in order, and octets that pass are the frame with its CRC behind it. -/
theorem receiverChecks : Obligations.ReceiverChecks := by
  refine ⟨octetsOf_bitsOf, fun bits => ⟨fun hshort => ?_, fun hwhole hlong => ?_, fun hwhole hlo hhi hcrc => ?_,
    fun hwhole hlo hhi hcrc => ?_⟩⟩
  · unfold receiveBits
    rcases hshort with h | h
    · rw [if_pos h]
    · rw [if_pos (c := bits.length < 8 * 7) (by omega), ite_self]
  · unfold receiveBits
    rw [if_neg (by omega), if_neg (by omega), if_pos (by omega)]
  · unfold receiveBits
    rw [if_neg (by omega), if_neg (by omega), if_neg (by omega), if_pos hcrc]
  · have hlen : bits.length = 8 * (bits.length / 8) := by omega
    have hoctets := octetsOf_length hlen
    have hsplit := List.take_append_drop (bits.length / 8 - 2) (octetsOf bits)
    obtain ⟨f, hf, hos⟩ := requestOctets_of_frameOf (os := (octetsOf bits).take (bits.length / 8 - 2))
      (by rw [List.length_take, hoctets]; omega)
    refine ⟨f, ?_, ?_⟩
    · unfold receiveBits
      rw [if_neg (by omega), if_neg (by omega), if_neg (by omega), if_neg (by rw [hcrc]; decide), hf]
    · have hpair := bitsOf_pair_of_crc (os := (octetsOf bits).take (bits.length / 8 - 2))
        (pair := (octetsOf bits).drop (bits.length / 8 - 2)) (by rw [List.length_drop, hoctets]; omega) (by rw [hsplit, hcrc])
      rw [requestBits, hos, withCrc, bitsOf_append, ← hpair, ← bitsOf_append, hsplit, bitsOf_octetsOf _ _ hlen]

/-- Settles O7: the bits received are the frame, and FRAME_BEGIN moves the receiver alone. -/
theorem frameBeginAndEndAreTheRow : Obligations.FrameBeginAndEndAreTheRow := by
  intro n f s hidle hsettled
  have hreceiver (l : Link) : ∃ r, l.beginFrame = { l with receiver := r } := by
    unfold Link.beginFrame
    split
    · exact ⟨_, rfl⟩
    · exact ⟨l.receiver, rfl⟩
  refine ⟨_, congrArg Host.Outcome.next (State.settle_updLink_receiver hsettled hreceiver), ?_⟩
  rw [exec_ofFrame]
  show Host.Outcome.next ((s.updLink n Link.beginFrame).updLink n fun l => l.endFrame (receiveBits (requestBits f))).settle = _
  rw [State.updLink_updLink, receiveBits_requestBits, State.deliver]
  congr 2
  refine State.updLink_congr ?_
  simp only [Link.receive, Link.seeLow, hidle]
  rfl

/-- Settles O13: the fields of a frame of the part, written out for each kind and code. -/
theorem outboundFrames : Obligations.OutboundFrames := by
  have hout (kind a b : Octet) (payload : List Octet) : outOctets kind a b payload =
      [kind, a, b, BitVec.ofNat 8 (payload.length / 256), BitVec.ofNat 8 payload.length] ++ payload := by
    rw [outOctets, halfOctets_ofNat]
    rfl
  have hshort (kind a b : Octet) {payload : List Octet} (m : Nat) (hm : payload.length = m) (hlt : m < 256) :
      outOctets kind a b payload = [kind, a, b, 0, BitVec.ofNat 8 m] ++ payload := by
    rw [hout, hm, Nat.div_eq_of_lt hlt]
    rfl
  have hempty (kind a b : Octet) : outOctets kind a b [] = [kind, a, b, 0, 0] := hshort kind a b 0 rfl (by decide)
  refine ⟨fun p hp tag ws => ?_, fun tag => ⟨hempty _ _ _, hempty _ _ _⟩, fun p hp tag st => ?_,
    fun w n seg k => ⟨?_, ?_, ?_, fun p hp => ?_, fun p hp => ?_⟩, fun l => ?_⟩
  · have hcode : ∀ p ∈ [(Status.ok, (0x00 : Octet)), (.notFound, 0x01), (.mismatch, 0x02), (.cancelled, 0x03), (.storeFault, 0x04),
        (.badKind, 0x10), (.badLen, 0x11), (.badArg, 0x12), (.notAdmin, 0x13), (.dupTag, 0x14), (.noSlot, 0x15), (.noSeg, 0x16),
        (.outside, 0x17), (.denied, 0x18), (.badRange, 0x19), (.inUse, 0x1A), (.noRoom, 0x1B), (.noTag, 0x1C), (.noWatch, 0x1D),
        (.busy, 0x1E)], p.1.code = p.2 := by decide
    rw [Reply.octets, hout, hcode p hp, wordsOctets_length]
    rfl
  · have hcode : ∀ p ∈ [(DataKind.read, (0x10 : Octet)), (.write, 0x11), (.exchange, 0x12), (.copy, 0x20), (.find, 0x21),
        (.fold, 0x22), (.apply, 0x23), (.map, 0x24)], p.1.code = p.2 := by decide
    rw [← hcode p hp]
    exact ⟨hshort _ _ _ 2 rfl (by decide), hshort _ _ _ 1 rfl (by decide)⟩
  · rw [Notice.octets, numHalf_two, hshort _ _ _ 3 rfl (by decide)]
    rfl
  · rw [Notice.octets, hshort _ _ _ 1 rfl (by decide)]
    rfl
  · rw [Notice.octets, numHalf_two, hshort _ _ _ 2 rfl (by decide)]
    rfl
  · have hcode : ∀ p ∈ [(BadFrame.check, (0 : Octet)), (.short, 1), (.long, 2), (.overrun, 3)], p.1.code = p.2 := by decide
    rw [Notice.octets, numHalf_two, hcode p hp, hshort _ _ _ 3 rfl (by decide)]
    rfl
  · have hcode : ∀ p ∈ [(RestartCause.power, (0 : Octet)), (.pin, 1), (.restart, 2), (.linkreset, 3)], p.1.code = p.2 := by decide
    rw [Notice.octets, hcode p hp, hshort _ _ _ 2 rfl (by decide)]
    rfl
  · intro bits
    refine ⟨fun os => rfl, fun hfree => ?_, fun r rest ht hreplies => ?_, fun m rest ht hnotices => ?_⟩
    · rw [Link.outEdges, if_pos hfree]
    · have hsending : l.sending = some (withCrc r.octets) := by
        simp only [Link.sending, ht, hreplies, List.head?_cons, Option.map_some]
      rw [Link.outEdges, if_neg (by rw [ht]; decide), Link.sendingBits, hsending]
      rfl
    · have hsending : l.sending = some (withCrc m.octets) := by
        simp only [Link.sending, ht, hnotices, List.head?_cons, Option.map_some]
      rw [Link.outEdges, if_neg (by rw [ht]; decide), Link.sendingBits, hsending]
      rfl

end Sys2Proof.Proofs
end

section
/-! PROOFS. The Watch Table under a write report and under DEFINE and DROP (R47, R132 to R136), and the requests answered in the
event of their arrival: WATCH, REARM, UNWATCH, DEFINE, DROP, LINKSET (R44 to R47, R130, R137, R138, R179). -/

namespace Sys2Proof.Machine

variable {s t : State}

/-! ### Watches acted on one after the other -/

/-- The step takes each watch by itself: what it leaves of it, and the notice, if any, that a link's queue is offered. -/
structure ActsOnWatches (step : State → WatchId → State) (left : Watch → Option Watch)
    (notice : LinkId → WatchId → Watch → Option Notice) : Prop where
  watch : ∀ s id j, (step s id).watch j = if id = j then (s.watch j).bind left else s.watch j
  link : ∀ s id n, (step s id).link n = ((s.watch id).bind (notice n id)).toList.foldl Link.queueNotice (s.link n)
  rest : ∀ s id, ∃ links watches, step s id = { s with links := links, watches := watches }

section Fold

variable {step : State → WatchId → State} {left : Watch → Option Watch} {notice : LinkId → WatchId → Watch → Option Notice}

theorem ActsOnWatches.foldl (h : ActsOnWatches step left notice) : ∀ (ids : List WatchId) (s : State), ids.Nodup →
    (∀ j, (ids.foldl step s).watch j = if j ∈ ids then (s.watch j).bind left else s.watch j) ∧
    (∀ n, (ids.foldl step s).link n =
      (ids.filterMap fun id => (s.watch id).bind (notice n id)).foldl Link.queueNotice (s.link n)) ∧
    ∃ links watches, ids.foldl step s = { s with links := links, watches := watches }
  | [], s, _ => ⟨fun j => by simp, fun n => rfl, s.links, s.watches, rfl⟩
  | id :: ids, s, hnodup => by
    obtain ⟨hnot, hids⟩ := List.nodup_cons.mp hnodup
    obtain ⟨hwatch, hlink, hrest⟩ := h.foldl ids (step s id) hids
    have hlater {j : WatchId} (hj : j ∈ ids) : (step s id).watch j = s.watch j := by
      rw [h.watch, if_neg]
      rintro rfl
      exact hnot hj
    refine ⟨fun j => ?_, fun n => ?_, ?_⟩
    · rw [List.foldl_cons, hwatch]
      by_cases hj : j ∈ ids
      · rw [if_pos hj, if_pos (List.mem_cons_of_mem id hj), hlater hj]
      · rw [if_neg hj, h.watch]
        refine if_congr ⟨?_, ?_⟩ rfl rfl
        · rintro rfl
          exact List.mem_cons_self
        · intro hmem
          exact ((List.mem_cons.mp hmem).resolve_right hj).symm
    · have hnotices : (ids.filterMap fun id' => ((step s id).watch id').bind (notice n id')) =
          ids.filterMap fun id' => (s.watch id').bind (notice n id') :=
        List.filterMap_congr fun id' hid' => by rw [hlater hid']
      rw [List.foldl_cons, hlink, hnotices, h.link, List.filterMap_cons]
      cases (s.watch id).bind (notice n id) <;> rfl
    · obtain ⟨links, watches, hrest⟩ := hrest
      obtain ⟨_, _, hstep⟩ := h.rest s id
      exact ⟨links, watches, by rw [List.foldl_cons, hrest, hstep]⟩

/-- All watches, in ascending id. -/
theorem ActsOnWatches.all (h : ActsOnWatches step left notice) (s : State) :
    (∀ j, (watchIds.foldl step s).watch j = (s.watch j).bind left) ∧
    (∀ n, (watchIds.foldl step s).link n =
      ((List.finRange 32).filterMap fun id => (s.watch id).bind (notice n id)).foldl Link.queueNotice (s.link n)) ∧
    watchIds.foldl step s =
      { s with links := (watchIds.foldl step s).links, watches := (watchIds.foldl step s).watches } := by
  obtain ⟨hwatch, hlink, hrest⟩ := h.foldl watchIds s (List.nodup_finRange 32)
  refine ⟨fun j => by rw [hwatch, if_pos (mem_watchIds j)], hlink, ?_⟩
  obtain ⟨links, watches, hrest⟩ := hrest
  rw [hrest]

/-- The three things a step may do with a watch: leave it, put what is left of it, or put that and offer its owner a notice. -/
theorem ActsOnWatches.intro (hnone : ∀ s id, s.watch id = none → step s id = s)
    (hsome : ∀ s id w, s.watch id = some w →
      (step s id = s ∧ left w = some w ∧ ∀ n, notice n id w = none) ∨
      (step s id = s.setWatch id (left w) ∧ ∀ n, notice n id w = none) ∨
      ∃ m, step s id = (s.setWatch id (left w)).queueNotice w.owner m ∧
        ∀ n, notice n id w = if w.owner = n then some m else none) :
    ActsOnWatches step left notice where
  watch s id j := by
    cases hw : s.watch id with
    | none =>
      rw [hnone s id hw]
      split
      · rename_i hj
        rw [← hj, hw]
        rfl
      · rfl
    | some w =>
      rcases hsome s id w hw with ⟨hstep, hleft, -⟩ | ⟨hstep, -⟩ | ⟨m, hstep, -⟩
      · rw [hstep]
        split
        · rename_i hj
          rw [← hj, hw, Option.bind_some, hleft]
        · rfl
      · rw [hstep, State.watch_setWatch]
        split
        · rename_i hj
          rw [← hj, hw, Option.bind_some]
        · rfl
      · rw [hstep]
        refine (State.watch_setWatch id j (left w)).trans ?_
        split
        · rename_i hj
          rw [← hj, hw, Option.bind_some]
        · rfl
  link s id n := by
    cases hw : s.watch id with
    | none => rw [hnone s id hw]; rfl
    | some w =>
      rw [Option.bind_some]
      rcases hsome s id w hw with ⟨hstep, -, hnotice⟩ | ⟨hstep, hnotice⟩ | ⟨m, hstep, hnotice⟩
      · rw [hstep, hnotice]; rfl
      · rw [hstep, hnotice]; rfl
      · rw [hstep, hnotice, State.link_queueNotice]
        split <;> rfl
  rest s id := by
    cases hw : s.watch id with
    | none => exact ⟨s.links, s.watches, by rw [hnone s id hw]⟩
    | some w =>
      rcases hsome s id w hw with ⟨hstep, -⟩ | ⟨hstep, -⟩ | ⟨m, hstep, -⟩ <;> exact ⟨_, _, hstep⟩

end Fold

/-! ### A write report (R132 to R136) -/

/-- The place in a report of the lowest word a watch counts (R132, R134). -/
def Watch.countedAt (w : Watch) (r : WriteReport) : Option Nat :=
  (List.range r.marks.length).find? fun i => w.counts r.writer (r.first + i) (r.marks[i]?.getD false)

theorem Watch.firstCounted_eq (w : Watch) (writer : LinkId) : ∀ (marks : List Bool) (a : Nat), w.firstCounted writer a marks =
    ((List.range marks.length).find? fun i => w.counts writer (a + i) (marks[i]?.getD false)).map fun i => a + i
  | [], a => rfl
  | m :: marks, a => by
    have ih := Watch.firstCounted_eq w writer marks (a + 1)
    rw [Watch.firstCounted, List.length_cons, List.range_succ_eq_map, List.find?_cons, ih]
    simp only [Nat.add_zero, List.getElem?_cons_zero, Option.getD_some]
    cases hcounts : w.counts writer a m with
    | true => rfl
    | false =>
      have hshift (i : Nat) : a + 1 + i = a + Nat.succ i := by omega
      simp only [Bool.false_eq_true, if_false, List.find?_map, Option.map_map, Function.comp_def, List.getElem?_cons_succ, hshift]

/-- What a report leaves of a watch (R133, R136). -/
def Watch.afterReport (w : Watch) (r : WriteReport) : Watch :=
  match w.countedAt r with
  | none => w
  | some _ => if w.fired then { w with missed := min (w.missed + 1) 255 } else { w with fired := true }

/-- The CHANGED that a report offers link n for a watch (R133, R134). -/
def Watch.changedNotice (r : WriteReport) (n : LinkId) (id : WatchId) (w : Watch) : Option Notice :=
  if w.owner = n ∧ w.fired = false then (w.countedAt r).map fun i => .changed id r.writer (r.first + i - w.first) else none

theorem State.reportTo_none {r : WriteReport} {id : WatchId} (h : s.watch id = none) : State.reportTo r s id = s := by
  simp only [State.reportTo, h]

theorem State.reportTo_uncounted {r : WriteReport} {id : WatchId} {w : Watch} (h : s.watch id = some w)
    (hc : w.countedAt r = none) : State.reportTo r s id = s := by
  have hfirst : w.firstCounted r.writer r.first r.marks = none := by
    rw [Watch.firstCounted_eq]
    exact congrArg (Option.map _) hc
  simp only [State.reportTo, h, hfirst]

theorem State.reportTo_counted {r : WriteReport} {id : WatchId} {w : Watch} {i : Nat} (h : s.watch id = some w)
    (hc : w.countedAt r = some i) : State.reportTo r s id =
      if w.fired then s.setWatch id (some { w with missed := min (w.missed + 1) 255 })
      else (s.setWatch id (some { w with fired := true })).queueNotice w.owner
        (.changed id r.writer (r.first + i - w.first)) := by
  have hfirst : w.firstCounted r.writer r.first r.marks = some (r.first + i) := by
    rw [Watch.firstCounted_eq]
    exact congrArg (Option.map _) hc
  simp only [State.reportTo, h, hfirst]
  rfl

theorem actsOnWatches_reportTo (r : WriteReport) :
    ActsOnWatches (State.reportTo r) (fun w => some (w.afterReport r)) (Watch.changedNotice r) := by
  refine .intro (fun s id hw => State.reportTo_none hw) fun s id w hw => ?_
  cases hc : w.countedAt r with
  | none =>
    refine .inl ⟨State.reportTo_uncounted hw hc, by rw [Watch.afterReport, hc], fun n => ?_⟩
    rw [Watch.changedNotice, hc]
    exact ite_self none
  | some i =>
    have hstep := State.reportTo_counted hw hc
    rw [Watch.afterReport, hc]
    cases hf : w.fired with
    | true =>
      rw [hf, if_pos rfl] at hstep
      refine .inr (.inl ⟨hstep, fun n => ?_⟩)
      rw [Watch.changedNotice, hf, if_neg (by simp)]
    | false =>
      rw [hf, if_neg (by simp)] at hstep
      refine .inr (.inr ⟨_, hstep, fun n => ?_⟩)
      rw [Watch.changedNotice, hf, hc]
      simp only [and_true, Option.map_some]

/-! ### The watches of a segment (R47) -/

theorem actsOnWatches_dropWatchOn (seg : SegmentId) :
    ActsOnWatches (State.dropWatchOn seg) (fun w => if w.segment = seg then none else some w)
      (fun n id w => if w.owner = n ∧ w.segment = seg then some (.watchgone id seg) else none) := by
  refine .intro (fun s id hw => by simp only [State.dropWatchOn, hw]) fun s id w hw => ?_
  by_cases hseg : w.segment = seg
  · have hstep : State.dropWatchOn seg s id = (s.setWatch id none).queueNotice w.owner (.watchgone id seg) := by
      simp only [State.dropWatchOn, hw, hseg, if_true]
    rw [if_pos hseg]
    refine .inr (.inr ⟨_, hstep, fun n => ?_⟩)
    simp only [hseg, and_true]
  · have hstep : State.dropWatchOn seg s id = s := by simp only [State.dropWatchOn, hw, hseg, if_false]
    rw [if_neg hseg]
    exact .inl ⟨hstep, rfl, fun n => if_neg fun h => hseg h.2⟩

/-! ### Requests answered in the event of their arrival -/

/-- A request with the frame a host sends for it, on a link that is served at once. -/
theorem exec_sendable {i : Instr} {n : LinkId} {tag : Tag} {r : Request} (hi : i.frame = some (n, r.frame tag))
    (hs : s.serves n = true) (hr : r.sendable = true) : exec i s = .next (s.takeRequest n tag r).settle := by
  have htag : (r.frame tag).tag = tag := rfl
  rw [exec_request hi hs (Request.payload_length_le hr) (parseFrame_frame tag hr), htag]

/-- Where taking a request changes nothing the records speak of and answers it, the arbiters alone follow. -/
theorem exec_answers {i : Instr} {n : LinkId} {tag : Tag} {r : Request} {x : Reply} (hi : i.frame = some (n, r.frame tag))
    (hs : s.serves n = true) (hr : r.sendable = true) (hagree : s.Agrees t) (hempty : s.keepsEmpty t)
    (ht : s.takeRequest n tag r = t.placeReply n x) : exec i s = .next (t.placeReply n x).arbitrate := by
  obtain ⟨-, -, hresets, hengine, hport, hinbox⟩ := State.serves_iff.mp hs
  rw [exec_sendable hi hs hr, ht]
  refine congrArg Host.Outcome.next (State.settle_congr (s := s) (fun j => ?_) (fun m => ?_) hagree.port hagree.stride (fun m => ?_)
    hresets hengine hport)
  · rw [State.slot_placeReply, hagree.slot]
  · rw [State.link_placeReply]
    split
    · exact hagree.status m
    · exact hagree.status m
  · rw [State.link_placeReply]
    split
    · exact hempty m (hinbox m)
    · exact hempty m (hinbox m)

/-- A frame refused by the checks that need no state. -/
theorem exec_refused {i : Instr} {n : LinkId} {f : Frame} {tag : Tag} {e : Status} (hi : i.frame = some (n, f))
    (htag : f.tag = tag) (hs : s.serves n = true) (hlen : f.payload.length ≤ 260) (hf : parseFrame f = .error e) :
    exec i s = .next (s.placeReply n (.answer e tag [])).arbitrate := by
  rw [exec_serves hi hs hlen, State.takeFrame, hf, ← State.settle_placeReply hs, ← htag]
  rfl

/-- A refused request, or one that asks no more than an answer. -/
theorem exec_answered {i : Instr} {n : LinkId} {tag : Tag} {r : Request} {x : Reply} (hi : i.frame = some (n, r.frame tag))
    (hs : s.serves n = true) (hr : r.sendable = true) (ht : s.takeRequest n tag r = s.placeReply n x) :
    exec i s = .next (s.placeReply n x).arbitrate :=
  exec_answers hi hs hr (.refl s) s.keepsEmpty_refl ht

theorem State.keepsEmpty_setSegment (id : SegmentId) (g : Option Segment) : s.keepsEmpty (s.setSegment id g) :=
  State.keepsEmpty_of_links rfl

theorem State.keepsEmpty_setWatch (id : WatchId) (w : Option Watch) : s.keepsEmpty (s.setWatch id w) :=
  State.keepsEmpty_of_links rfl

/-! ### Segments in use (R45) -/

theorem Job.names_iff {j : Job Operand} {id : SegmentId} : j.names id = true ↔ ∃ o ∈ j.operands, o.segment.toNat = id.val := by
  simp [Job.names, List.any_eq_true]

theorem State.segmentInUse_iff {id : SegmentId} : s.segmentInUse id = true ↔
    (∃ i sl, s.slot i = some sl ∧ sl.state ≠ .held ∧ ∃ o ∈ sl.job.operands, o.segment.toNat = id.val) ∨
    ∃ a, s.port = .direct a ∧ ∃ o ∈ a.job.operands, o.segment.toNat = id.val := by
  have haccess : s.accessNames id = true ↔ ∃ a, s.port = .direct a ∧ ∃ o ∈ a.job.operands, o.segment.toNat = id.val := by
    unfold State.accessNames
    split
    · rename_i a ha
      rw [Job.names_iff]
      exact ⟨fun h => ⟨a, ha, h⟩, fun ⟨a', ha', h⟩ => by cases ha.symm.trans ha'; exact h⟩
    · rename_i hport
      exact ⟨fun h => absurd h Bool.false_ne_true, fun ⟨a, ha, _⟩ => absurd ha (hport a)⟩
  rw [State.segmentInUse, Bool.or_eq_true, haccess]
  simp only [List.any_eq_true, State.mem_busySlots, Prod.exists, Bool.and_eq_true, decide_eq_true_eq, Job.names_iff]

/-! ### The Watch Table's free entries and owners (R130, R137) -/

theorem State.freeWatch_none (h : ∀ id, s.watch id ≠ none) : s.freeWatch = none := by
  refine List.find?_eq_none.mpr fun id _ => ?_
  rw [Option.isNone_iff_eq_none]
  exact h id

theorem State.freeWatch_isSome {id : WatchId} (h : s.watch id = none) : ∃ j, s.freeWatch = some j := by
  refine Option.isSome_iff_exists.mp (List.find?_isSome.mpr ⟨id, mem_watchIds id, ?_⟩)
  rw [h]
  rfl

theorem State.freeWatch_least {id : WatchId} (h : s.watch id = none) (hbefore : ∀ j, j < id → s.watch j ≠ none) :
    s.freeWatch = some id := by
  obtain ⟨j, hj⟩ := State.freeWatch_isSome h
  obtain ⟨hfree, before, after, hids, hnot⟩ := List.find?_eq_some_iff_append.mp hj
  have hsorted : watchIds.Pairwise (· < ·) := List.pairwise_lt_finRange 32
  rw [hids] at hsorted
  have hmem : id ∈ before ++ j :: after := hids ▸ mem_watchIds id
  rcases List.mem_append.mp hmem with hid | hid
  · have := hnot id hid
    rw [h] at this
    cases this
  · rcases List.mem_cons.mp hid with rfl | hid
    · exact hj
    · have hlt := (List.pairwise_cons.mp (List.pairwise_append.mp hsorted).2.1).1 id hid
      exact absurd (Option.isNone_iff_eq_none.mp hfree) (hbefore j hlt)

theorem State.ownedWatch_some {n : LinkId} {id : WatchId} {w : Watch} (hw : s.watch id = some w) (howner : w.owner = n) :
    s.ownedWatch n id = some w := by
  simp [State.ownedWatch, hw, howner]

theorem State.ownedWatch_none {n : LinkId} {id : WatchId} (h : ∀ w, s.watch id = some w → w.owner ≠ n) :
    s.ownedWatch n id = none := by
  rw [State.ownedWatch, Option.filter_eq_none_iff]
  intro w hw
  simpa using h w hw

/-! ### Link parameters -/

theorem Link.agrees_setParameter (l : Link) (p : Parameter) : l.agrees (l.setParameter p) := by
  cases p <;> exact ⟨rfl, rfl, rfl, rfl, rfl⟩

theorem Link.inbox_setParameter (l : Link) (p : Parameter) : (l.setParameter p).inbox = l.inbox := by
  cases p <;> rfl

/-- Link 0 keeps its admin whoever asks (R179). -/
theorem parseFrame_admin_kept (tag : Tag) : parseFrame ((Request.linkset 0 (.admin false)).frame tag) = .error .badArg := by
  rfl

theorem Parameter.frame_command (n : LinkId) (tag : Tag) (target : LinkId) (p : Parameter) :
    (p.command n tag target).frame = some (n, (Request.linkset target p).frame tag) := by
  cases p <;> rfl

end Sys2Proof.Machine

namespace Sys2Proof.Proofs

open Sys2Proof Sys2Proof.Machine

/-- Settles O26: each watch is acted on by itself, in ascending id. -/
theorem reportReachesTheWatches : Obligations.ReportReachesTheWatches := by
  intro s r counted
  obtain ⟨hwatch, hlink, hrest⟩ := (actsOnWatches_reportTo r).all s
  have hcounted (w : Watch) : w.countedAt r = counted w := by
    refine congrArg (fun p => List.find? p (List.range r.marks.length)) (funext fun i => ?_)
    rw [Watch.counts, Bool.decide_and]
  refine ⟨fun id => ?_, fun n => ?_, hrest, rfl⟩
  · refine (hwatch id).trans ?_
    cases s.watch id with
    | none => rfl
    | some w =>
      refine congrArg some ?_
      rw [Watch.afterReport, hcounted] <;> rfl
  · refine (hlink n).trans ?_
    refine congrArg (fun ms => ms.foldl Link.queueNotice (s.link n)) (List.filterMap_congr fun id _ => ?_)
    refine congrArg (Option.bind (s.watch id)) (funext fun w => ?_)
    rw [Watch.changedNotice, hcounted]

/-- Settles O49: the checks of DEFINE and of DROP in order, and the removal of watches, one at a time in ascending id. -/
theorem defineAndDrop : Obligations.DefineAndDrop := by
  refine ⟨fun s n tag id hs => ?_, fun s seg => ?_⟩
  · intro answers inUse
    refine ⟨fun base len rights hbase hlo hhi => ?define, ?drop⟩
    case define =>
      intro r i
      have hi : i.frame = some (n, r.frame tag) := rfl
      have hr : r.sendable = true := by simp [r, Request.sendable, hbase, hlo, hhi]
      have htake : s.takeRequest n tag r = s.takeDefine n tag id base len rights := rfl
      refine ⟨fun hadmin => ?_, fun hadmin hrange => ?_, fun hadmin hrange huse => ?_, fun hadmin hrange huse => ?_⟩
      · refine exec_answered hi hs hr ?_
        rw [htake, State.takeDefine, hadmin]
        rfl
      · refine exec_answered hi hs hr ?_
        rw [htake, State.takeDefine, hadmin, storeSize, if_neg (by simp), if_pos hrange]
        rfl
      · refine exec_answered hi hs hr ?_
        rw [htake, State.takeDefine, hadmin, storeSize, if_neg (by simp), if_neg (by omega),
          if_pos (State.segmentInUse_iff.mpr huse)]
        rfl
      · have hdrop : s.Agrees (if s.segment id = none then s else s.dropWatchesOn id) ∧
            s.keepsEmpty (if s.segment id = none then s else s.dropWatchesOn id) := by
          split
          · exact ⟨.refl s, s.keepsEmpty_refl⟩
          · exact ⟨State.agrees_dropWatchesOn id, State.keepsEmpty_dropWatchesOn id⟩
        refine exec_answers hi hs hr (hdrop.1.trans (State.agrees_setSegment _ _))
          (hdrop.2.trans (State.keepsEmpty_setSegment _ _)) ?_
        rw [htake, State.takeDefine, hadmin, storeSize, if_neg (by simp), if_neg (by omega),
          if_neg (fun h => huse (State.segmentInUse_iff.mp h))]
        cases hseg : s.segment id <;> rfl
    case drop =>
      intro i
      have hi : i.frame = some (n, (Request.drop id).frame tag) := rfl
      have htake : s.takeRequest n tag (.drop id) = s.takeDrop n tag id := rfl
      refine ⟨fun hadmin => ?_, fun hadmin hseg => ?_, fun hadmin hseg huse => ?_, fun hadmin hseg huse => ?_⟩
      · refine exec_answered hi hs rfl ?_
        rw [htake, State.takeDrop, hadmin]
        rfl
      · refine exec_answered hi hs rfl ?_
        rw [htake, State.takeDrop, hadmin, hseg]
        rfl
      · refine exec_answered hi hs rfl ?_
        rw [htake, State.takeDrop, hadmin, if_neg (by simp), if_neg (by simpa using hseg), if_pos (State.segmentInUse_iff.mpr huse)]
        rfl
      · refine exec_answers hi hs rfl ((State.agrees_dropWatchesOn id).trans (State.agrees_setSegment _ _))
          ((State.keepsEmpty_dropWatchesOn id).trans (State.keepsEmpty_setSegment _ _)) ?_
        rw [htake, State.takeDrop, hadmin, if_neg (by simp), if_neg (by simpa using hseg),
          if_neg (fun h => huse (State.segmentInUse_iff.mp h))]
        rfl
  · obtain ⟨hwatch, hlink, hrest⟩ := (actsOnWatches_dropWatchOn seg).all s
    refine ⟨fun id => (hwatch id).trans ?_, hlink, hrest⟩
    cases s.watch id with
    | none => rfl
    | some w =>
      rw [Option.bind_some, Option.filter_some]
      by_cases h : w.segment = seg
      · rw [if_pos h, if_neg (by simpa using h)]
      · rw [if_neg h, if_pos (by simpa using h)]

/-- Settles O48: the free entry for WATCH, and the ownership REARM and UNWATCH ask for. -/
theorem watchRequests : Obligations.WatchRequests := by
  intro s n tag hs answers
  refine ⟨fun seg off c mode self hoff hlo hhi => ?_, fun id => ?_⟩
  · intro r i place
    have hi : i.frame = some (n, r.frame tag) := rfl
    have hr : r.sendable = true := by simp [r, Request.sendable, hoff, hlo, hhi]
    have htake : s.takeRequest n tag r = s.takeWatch n tag seg off c mode self := rfl
    refine ⟨fun hfull => ?_, fun id e hfree hplace => ?_, fun id o hfree hbefore hplace => ?_⟩
    · refine exec_answered hi hs hr ?_
      simp only [htake, State.takeWatch, State.freeWatch_none hfull]
      rfl
    · obtain ⟨j, hj⟩ := State.freeWatch_isSome hfree
      have hplace' : s.translate n .read ⟨BitVec.ofNat 8 seg.val, off, c⟩ = .error e := hplace
      refine exec_answered hi hs hr ?_
      simp only [htake, State.takeWatch, hj, hplace']
      rfl
    · have hplace' : s.translate n .read ⟨BitVec.ofNat 8 seg.val, off, c⟩ = .ok o := hplace
      refine exec_answers hi hs hr (State.agrees_setWatch _ _) (State.keepsEmpty_setWatch _ _) ?_
      simp only [htake, State.takeWatch, State.freeWatch_least hfree hbefore, hplace']
      rfl
  · intro rearm unwatch
    have hrearm : rearm.frame = some (n, (Request.rearm id).frame tag) := rfl
    have hunwatch : unwatch.frame = some (n, (Request.unwatch id).frame tag) := rfl
    have htakeR : s.takeRequest n tag (.rearm id) = s.takeRearm n tag id := rfl
    have htakeU : s.takeRequest n tag (.unwatch id) = s.takeUnwatch n tag id := rfl
    refine ⟨fun hnot => ⟨exec_answered hrearm hs rfl ?_, exec_answered hunwatch hs rfl ?_⟩, fun w hw howner =>
      ⟨fun hfired => exec_answers hrearm hs rfl (State.agrees_setWatch _ _) (State.keepsEmpty_setWatch _ _) ?_,
        fun harmed => exec_answered hrearm hs rfl ?_,
        exec_answers hunwatch hs rfl (State.agrees_setWatch _ _) (State.keepsEmpty_setWatch _ _) ?_⟩⟩
    · simp only [htakeR, State.takeRearm, State.ownedWatch_none hnot]
      rfl
    · simp only [htakeU, State.takeUnwatch, State.ownedWatch_none hnot]
      rfl
    · simp only [htakeR, State.takeRearm, State.ownedWatch_some hw howner, hfired, if_true]
      rfl
    · simp only [htakeR, State.takeRearm, State.ownedWatch_some hw howner, harmed, Bool.false_eq_true, if_false]
      rfl
    · simp only [htakeU, State.takeUnwatch, State.ownedWatch_some hw howner]
      rfl

/-- Settles O50: the three answers of LINKSET. -/
theorem linksetSetsOneParameter : Obligations.LinksetSetsOneParameter := by
  intro s n target tag p hs answers allowed
  have hi := Parameter.frame_command n tag target p
  have htake : s.takeRequest n tag (.linkset target p) = s.takeLinkset n tag target p := rfl
  have hallowed : allowed ↔ ¬ (!(s.link n).admin && (p.privileged || decide (target ≠ n))) = true := by
    cases p <;> cases hadmin : (s.link n).admin <;> simp [allowed, hadmin, Parameter.privileged]
  have hsendable (h : ¬ (p = .admin false ∧ target = 0)) : (Request.linkset target p).sendable = true := by
    simp only [Request.sendable, Bool.not_eq_true', Bool.and_eq_false_iff, decide_eq_false_iff_not]
    tauto
  refine ⟨fun hp htarget => ?_, fun hr hnot => ?_, fun hr hok => ?_⟩
  · subst hp htarget
    exact exec_refused hi rfl hs (show 4 ≤ 260 by omega) (parseFrame_admin_kept tag)
  · refine exec_answered hi hs (hsendable hr) ?_
    rw [htake, State.takeLinkset, if_pos (by_contra fun h => hnot (hallowed.mpr h))]
    rfl
  · have htook : s.takeRequest n tag (.linkset target p) =
        (s.updLink target fun l => l.setParameter p).placeReply n (.answer .ok tag []) := by
      rw [htake, State.takeLinkset, if_neg (hallowed.mp hok)]
      rfl
    have h := exec_answers hi hs (hsendable hr) (State.agrees_updLink fun l => l.agrees_setParameter p)
      (State.keepsEmpty_updLink fun h => (Link.inbox_setParameter _ p).trans h) htook
    cases p <;> exact h

end Sys2Proof.Proofs
end

section
/-! PROOFS. Data requests refused and admitted (R7 to R13), CLAIM and CANCEL (R22 to R27), queries (R181 to R183), and the
acceptance of resets (R184, R187). -/

namespace Sys2Proof.Machine

variable {s t : State} {n : LinkId} {tag : Tag}

/-! ### The frames of the commands -/

theorem DataRequest.frame_command (n : LinkId) (tag : Tag) (r : DataRequest) :
    (r.command n tag).frame = some (n, (Request.data r).frame tag) := by
  obtain ⟨job, posted, data⟩ := r
  cases job with
  | write a =>
    cases posted with
    | false =>
      have hflags : (0 : Octet) &&& 0xFE = 0 := by decide
      show some (n, Frame.mk 0x11 ((0 : Octet) &&& 0xFE) tag _ _) = some (n, Frame.mk 0x11 0 tag _ _)
      rw [hflags]
      rfl
    | true =>
      have hflags : (1 : Octet) ||| 0x01 = 1 := by decide
      show some (n, Frame.mk 0x11 ((1 : Octet) ||| 0x01) tag _ _) = some (n, Frame.mk 0x11 1 tag _ _)
      rw [hflags]
      rfl
  | read _ | exchange _ _ _ _ | copy _ _ | find _ _ _ _ | fold _ _ _ | apply _ _ _ | map _ _ _ => rfl

theorem Selector.frame_command (n : LinkId) (tag : Tag) (q : Selector) :
    (q.command n tag).frame = some (n, (Request.query q).frame tag) := by
  cases q <;> rfl

/-! ### A data request's checks -/

theorem rangesOverlap_iff_exists {a m b k : Nat} : rangesOverlap a m b k = true ↔
    ∃ x, a ≤ x ∧ x < a + m ∧ b ≤ x ∧ x < b + k := rangesOverlap_iff

theorem State.placeOf_iff {r : Ref} {x : Nat} : s.placeOf r = some x ↔
    ∃ g, s.segmentOf r.segment = some g ∧ r.offset + r.count ≤ g.length ∧ x = g.base + r.offset := by
  unfold State.placeOf
  cases s.segmentOf r.segment with
  | none => exact ⟨fun h => (nomatch h), fun ⟨_, h, _⟩ => (nomatch h)⟩
  | some g =>
    simp only [Option.some.injEq, exists_eq_left']
    split
    · exact ⟨fun h => (nomatch h), fun h => by omega⟩
    · rw [Option.some.injEq]
      exact ⟨fun h => ⟨by omega, h.symm⟩, fun h => h.2.symm⟩

theorem State.mapOverlaps_iff {j : Job Ref} : s.mapOverlaps j = true ↔ ∃ a t mode ga gt, j = .map a t mode ∧
    s.segmentOf a.segment = some ga ∧ s.segmentOf t.segment = some gt ∧
    a.offset + a.count ≤ ga.length ∧ t.offset + t.count ≤ gt.length ∧
    ∃ x, ga.base + a.offset ≤ x ∧ x < ga.base + a.offset + a.count ∧
      gt.base + t.offset ≤ x ∧ x < gt.base + t.offset + t.count := by
  constructor
  · intro h
    unfold State.mapOverlaps at h
    split at h
    · rename_i a t mode
      split at h
      · rename_i x y hx hy
        obtain ⟨ga, hga, hla, rfl⟩ := State.placeOf_iff.mp hx
        obtain ⟨gt, hgt, hlt, rfl⟩ := State.placeOf_iff.mp hy
        exact ⟨a, t, mode, ga, gt, rfl, hga, hgt, hla, hlt, rangesOverlap_iff.mp h⟩
      · cases h
    · cases h
  · rintro ⟨a, t, mode, ga, gt, rfl, hga, hgt, hla, hlt, hx⟩
    simp only [State.mapOverlaps, State.placeOf_iff.mpr ⟨ga, hga, hla, rfl⟩, State.placeOf_iff.mpr ⟨gt, hgt, hlt, rfl⟩]
    exact rangesOverlap_iff.mpr hx

theorem State.slotWithTag_isSome (h : ¬ ∀ k sl, s.slot ⟨n, k⟩ = some sl → sl.tag ≠ tag) : (s.slotWithTag n tag).isSome = true := by
  rw [Option.isSome_iff_ne_none]
  exact fun hnone => h (State.slotWithTag_none.mp hnone)

theorem State.slotWithTag_eq {k : SlotIdx} {sl : Slot} (hslot : s.slot ⟨n, k⟩ = some sl) (htag : sl.tag = tag)
    (hone : ∀ j sl', s.slot ⟨n, j⟩ = some sl' → sl'.tag = tag → j = k) : s.slotWithTag n tag = some (k, sl) := by
  have hsome := State.slotWithTag_isSome (s := s) (n := n) (tag := tag) fun h => h k sl hslot htag
  obtain ⟨⟨j, sl'⟩, hfound⟩ := Option.isSome_iff_exists.mp hsome
  obtain ⟨hslot', htag'⟩ := State.slotWithTag_some hfound
  obtain rfl := hone j sl' hslot' htag'
  rw [hfound, ← Option.some.inj (hslot.symm.trans hslot')]

section TakeData

variable {r : DataRequest}

theorem State.takeData_mapOverlaps (h : s.mapOverlaps r.job = true) : s.takeData n tag r = s.refuse n tag .badArg := by
  rw [State.takeData, if_pos h]

theorem State.takeData_dupTag (hmap : s.mapOverlaps r.job = false) (htag : (s.slotWithTag n tag).isSome = true) :
    s.takeData n tag r = s.refuse n tag .dupTag := by
  rw [State.takeData, hmap, if_neg Bool.false_ne_true, if_pos htag]

theorem State.takeData_noSlot (hmap : s.mapOverlaps r.job = false) (htag : s.slotWithTag n tag = none)
    (hfree : s.lowestFree n = none) : s.takeData n tag r = s.refuse n tag .noSlot := by
  simp only [State.takeData, hmap, htag, hfree, Bool.false_eq_true, if_false, Option.isSome_none]

theorem State.takeData_operands {k : SlotIdx} {e : Status} (hmap : s.mapOverlaps r.job = false) (htag : s.slotWithTag n tag = none)
    (hfree : s.lowestFree n = some k) (hjob : s.translateJob n r.job = .error e) : s.takeData n tag r = s.refuse n tag e := by
  simp only [State.takeData, hmap, htag, hfree, hjob, Bool.false_eq_true, if_false, Option.isSome_none]

theorem State.takeData_admission {k : SlotIdx} {job : Job Operand} (hmap : s.mapOverlaps r.job = false)
    (htag : s.slotWithTag n tag = none) (hfree : s.lowestFree n = some k) (hjob : s.translateJob n r.job = .ok job) :
    s.takeData n tag r = s.admission n k tag r job := by
  simp only [State.takeData, hmap, htag, hfree, hjob, Bool.false_eq_true, if_false, Option.isSome_none]

end TakeData

theorem State.lowestFree_isSome {k : SlotIdx} (h : s.slot ⟨n, k⟩ = none) : ∃ j, s.lowestFree n = some j :=
  Option.ne_none_iff_exists'.mp fun hnone => State.lowestFree_none.mp hnone k h

/-! ### Admission -/

theorem State.translate_count {need : Right} {r : Ref} {o : Operand} (h : s.translate n need r = .ok o) : o.count = r.count := by
  unfold State.translate at h
  split at h
  · cases h
  · split at h
    · cases h
    · split at h <;> cases h
      rfl

theorem Link.setSlot_setSlot (l : Link) (k : SlotIdx) (v v' : Option Slot) : (l.setSlot k v).setSlot k v' = l.setSlot k v' := by
  simp only [Link.setSlot, Vector.set_set]

theorem State.updLink_with_admissions (n : LinkId) (f g : Link → Link) (a : Nat) :
    State.updLink { s.updLink n f with admissions := a } n g = { s.updLink n fun l => g (f l) with admissions := a } :=
  congrArg (fun x : State => { x with admissions := a }) (s.updLink_updLink n f g)

/-- The direction of a COPY with a destination that is not empty (R110). -/
theorem copyDirection_eq {a b : Operand} (hb : 0 < b.count) : copyDirection a b =
    if a.first < b.first ∧ b.first < a.first + a.count then .downward else .upward := by
  unfold copyDirection Operand.overlaps rangesOverlap
  refine if_congr ?_ rfl rfl
  simp only [Bool.and_eq_true, decide_eq_true_eq]
  omega

theorem startCursor_copy {a b : Operand} (hb : 0 < b.count) : (Job.copy a b).startCursor =
    if a.first < b.first ∧ b.first < a.first + a.count then { done := 0, next := a.count - 1, acc := 0, dir := .downward }
    else { done := 0, next := 0, acc := 0, dir := .upward } := by
  simp only [Job.startCursor, copyDirection_eq hb]
  by_cases h : a.first < b.first ∧ b.first < a.first + a.count
  · rw [if_pos h, if_pos h]
  · rw [if_neg h, if_neg h]

/-- The destination of an admitted COPY is not empty (R8). -/
theorem State.translateJob_copy {r : DataRequest} {a b : Operand} (hr : r.sendable = true)
    (h : s.translateJob n r.job = .ok (.copy a b)) : 0 < b.count := by
  have hkind := State.translateJob_kind h
  obtain ⟨job, posted, data⟩ := r
  cases job with
  | copy x y =>
    obtain ⟨x', -, h⟩ := bind_ok h
    obtain ⟨y', hy, h⟩ := bind_ok h
    cases h
    simp only [DataRequest.sendable, Ref.sendable, Bool.and_eq_true, decide_eq_true_eq] at hr
    have := State.translate_count hy
    omega
  | read _ | write _ | exchange _ _ _ _ | find _ _ _ _ | fold _ _ _ | apply _ _ _ | map _ _ _ => cases hkind

/-! ### Queries -/

theorem pairwise_joinByAdmission (e : SlotIdx × Slot) : ∀ l : List (SlotIdx × Slot),
    l.Pairwise (fun p q => p.2.admission ≤ q.2.admission) →
    (joinByAdmission e l).Pairwise fun p q => p.2.admission ≤ q.2.admission
  | [], _ => List.pairwise_singleton _ _
  | x :: rest, h => by
    rw [List.pairwise_cons] at h
    unfold joinByAdmission
    split
    · rename_i hbefore
      refine List.pairwise_cons.mpr ⟨fun q hq => ?_, pairwise_joinByAdmission e rest h.2⟩
      rcases List.mem_cons.mp ((joinByAdmission_perm e rest).mem_iff.mp hq) with rfl | hq
      · exact Nat.le_of_lt hbefore
      · exact h.1 q hq
    · rename_i hbehind
      refine List.pairwise_cons.mpr ⟨fun q hq => ?_, List.pairwise_cons.mpr h⟩
      rcases List.mem_cons.mp hq with rfl | hq
      · exact Nat.le_of_not_lt hbehind
      · exact (Nat.le_of_not_lt hbehind).trans (h.1 q hq)

/-- The slots of a link in the order that QUERY SLOTS answers them (R183). -/
def State.slotsByAdmission (s : State) (n : LinkId) : List (SlotIdx × Slot) := (s.busyOn n).foldr joinByAdmission []

theorem State.slotsByAdmission_perm (s : State) (n : LinkId) : (s.slotsByAdmission n).Perm (s.busyOn n) := by
  have fold : ∀ l : List (SlotIdx × Slot), (l.foldr joinByAdmission []).Perm l := by
    intro l
    induction l with
    | nil => exact .refl _
    | cons e l ih => exact (joinByAdmission_perm e _).trans (ih.cons e)
  exact fold _

theorem State.pairwise_slotsByAdmission (s : State) (n : LinkId) :
    (s.slotsByAdmission n).Pairwise fun p q => p.2.admission ≤ q.2.admission := by
  have fold : ∀ l : List (SlotIdx × Slot), (l.foldr joinByAdmission []).Pairwise fun p q => p.2.admission ≤ q.2.admission := by
    intro l
    induction l with
    | nil => exact List.Pairwise.nil
    | cons e l ih => exact pairwise_joinByAdmission e _ ih
  exact fold _

theorem State.busyOn_slots (s : State) (n : LinkId) :
    (s.busyOn n).map (fun p => p.2) = (List.finRange 8).filterMap fun k => s.slot ⟨n, k⟩ := by
  rw [State.busyOn, List.map_filterMap, slotIdxs_eq]
  refine List.filterMap_congr fun k _ => ?_
  cases s.slot ⟨n, k⟩ <;> rfl

/-! ### Resets -/

theorem resetSlot_eq (inProgress : Bool) (v : Option Slot) : resetSlot inProgress v = v.bind fun sl =>
    if sl.state = .running ∧ inProgress = true then
      some { sl with state := .stopping, reserved := false, budgetTimer := none, holdTimer := none }
    else if sl.state = .stopping then some sl else none := by
  cases v with
  | none => rfl
  | some sl =>
    rw [Option.bind_some]
    cases hst : sl.state with
    | running => cases inProgress <;> simp [resetSlot, hst, Slot.toStopping]
    | waiting | queued | suspended | stopping | held => simp [resetSlot, hst]

theorem State.watch_resetLinks (targets : LinkId → Bool) (cause : ResetCause) (id : WatchId) :
    (s.resetLinks targets cause).watch id = (s.watch id).filter fun w => !targets w.owner := by
  simp [State.resetLinks, State.dropWatchesOf, State.watch]

end Sys2Proof.Machine

namespace Sys2Proof.Proofs

open Sys2Proof Sys2Proof.Machine

/-- Settles O44: the four checks of a data request in order, then the translation of each kind's operands. -/
theorem dataRequestsAreRefusedInOrder : Obligations.DataRequestsAreRefusedInOrder := by
  refine ⟨fun s n tag r hs hr => ?_, fun s n a b c m v t g h mode => ?_⟩
  · intro refused overlap tagFree
    have hoverlap : s.mapOverlaps r.job = true ↔ overlap := State.mapOverlaps_iff
    have hanswer (e : Status) (h : s.takeData n tag r = s.refuse n tag e) : refused e :=
      exec_answered (r := .data r) (r.frame_command n tag) hs hr h
    have happart (h : ¬ overlap) : s.mapOverlaps r.job = false := Bool.eq_false_iff.mpr fun hm => h (hoverlap.mp hm)
    refine ⟨fun h => hanswer _ (State.takeData_mapOverlaps (hoverlap.mpr h)),
      fun h htag => hanswer _ (State.takeData_dupTag (happart h) (State.slotWithTag_isSome htag)),
      fun h htag hfull => hanswer _ (State.takeData_noSlot (happart h) (State.slotWithTag_none.mpr htag)
        (State.lowestFree_none.mpr hfull)), fun e h htag hfree hjob => ?_⟩
    obtain ⟨k, hk⟩ := hfree
    obtain ⟨j, hj⟩ := State.lowestFree_isSome hk
    exact hanswer e (State.takeData_operands (happart h) (State.slotWithTag_none.mpr htag) hj hjob)
  · refine ⟨?_, ?_, ?_, ?_, ?_, ?_, fun e he => ?_, fun x hx => ?_, fun e he => ?_, fun x hx => ?_⟩
    · rw [State.translateJob]; cases s.translate n .read a <;> rfl
    · rw [State.translateJob]; cases s.translate n .write a <;> rfl
    · rw [State.translateJob]; cases s.translate n .write a <;> rfl
    · rw [State.translateJob]; cases s.translate n .read a <;> rfl
    · rw [State.translateJob]; cases s.translate n .read a <;> rfl
    · rw [State.translateJob]; cases s.translate n .write a <;> rfl
    · rw [State.translateJob, he]; rfl
    · rw [State.translateJob, hx]; cases s.translate n .write b <;> rfl
    · rw [State.translateJob, he]; rfl
    · rw [State.translateJob, hx]; cases s.translate n .read b <;> rfl

/-- Settles O45: the record written is `newSlot`, and under a budget of 0 it is deferred at once. -/
theorem dataRequestsAreAdmitted : Obligations.DataRequestsAreAdmitted := by
  intro s n tag k r job hs hr hmap htag hfree hbefore hjob start fresh
  have hstart : job.startCursor = start := by
    cases job with
    | copy a b => exact startCursor_copy (State.translateJob_copy hr hjob)
    | read _ | write _ | exchange _ _ _ _ | find _ _ _ _ | fold _ _ _ | apply _ _ _ | map _ _ _ => rfl
  have htake : s.takeRequest n tag (.data r) = s.admission n k tag r job :=
    State.takeData_admission hmap (State.slotWithTag_none.mpr htag) (State.lowestFree_eq hfree hbefore) hjob
  have hexec : exec (r.command n tag) s = .next (s.admission n k tag r job).settle := by
    rw [exec_sendable (r.frame_command n tag) hs hr, htake]
  have hstate : (if job.isBlock then SlotState.queued else .waiting) = fresh.state := by cases job <;> rfl
  rw [hexec]
  refine ⟨fun hor => ?_, fun hposted hbudget => ?_⟩
  · have hnew : newSlot (s.link n) s.admissions tag r job = fresh := by
      have htimer : (if r.posted then none else budgetTicks (s.link n).budget) = fresh.budgetTimer := by
        show _ = if r.posted then none else some (s.link n).budget.toNat
        rcases hor with h | h
        · rw [h]; rfl
        · rw [budgetTicks, if_neg h]
      rw [newSlot, hstate, hstart, htimer]
    have hnot : ¬ (!r.posted && decide ((s.link n).budget = 0)) = true := by
      rcases hor with h | h
      · rw [h]; exact Bool.false_ne_true
      · rw [decide_eq_false h, Bool.and_false]; exact Bool.false_ne_true
    rw [State.admission, hnew, if_neg hnot]
    rfl
  · have hnew : (newSlot (s.link n) s.admissions tag r job).deferred =
        { fresh with phase := .deferred, reserved := false, budgetTimer := none } := by
      rw [newSlot, hstate, hstart] <;> rfl
    have htag : (newSlot (s.link n) s.admissions tag r job).tag = tag := rfl
    rw [State.admission, if_pos (by rw [hposted, decide_eq_true hbudget]; rfl)]
    refine congrArg (fun x : State => Host.Outcome.next (State.settle x)) ?_
    refine (State.updLink_with_admissions n _ _ _).trans ?_
    refine congrArg (fun x : State => { x with admissions := s.admissions + 1 }) (State.updLink_congr ?_)
    simp only [Link.deferSlot, Link.setSlot_setSlot, hnew, htag]
    rfl

/-- Settles O47: by the state of the slot that carries the tag. -/
theorem claimAndCancel : Obligations.ClaimAndCancel := by
  intro s n tag hs claim cancel
  have hclaimFrame : (Instr.claim n { flags := 0, tag := tag, length := 0 } []).frame = some (n, Request.claim.frame tag) := rfl
  have hcancelFrame : (Instr.cancel n { flags := 0, tag := tag, length := 0 } []).frame = some (n, Request.cancel.frame tag) := rfl
  have htakeClaim : s.takeRequest n tag .claim = s.takeClaim n tag := rfl
  have htakeCancel : s.takeRequest n tag .cancel = s.takeCancel n tag := rfl
  refine ⟨fun hnone => ⟨exec_answered hclaimFrame hs rfl ?_, exec_answered hcancelFrame hs rfl ?_⟩, fun k sl hslot htag hone => ?_⟩
  · rw [htakeClaim, State.takeClaim, State.slotWithTag_none.mpr hnone]
    rfl
  · rw [htakeCancel, State.takeCancel, State.slotWithTag_none.mpr hnone]
    rfl
  have hfound := State.slotWithTag_eq hslot htag hone
  have hclaim : claim = .next (s.takeClaim n tag).settle := by
    rw [← htakeClaim]
    exact exec_sendable hclaimFrame hs rfl
  have hcancel : cancel = .next ((s.cancelTarget ⟨n, k⟩ sl).placeReply n (.answer .ok tag [])).settle := by
    have htook : s.takeCancel n tag = (s.cancelTarget ⟨n, k⟩ sl).placeReply n (.answer .ok tag []) := by
      simp only [State.takeCancel, hfound]
      rfl
    rw [← htook, ← htakeCancel]
    exact exec_sendable hcancelFrame hs rfl
  refine ⟨fun o hheld ho => ?_, fun hnot => exec_answered hclaimFrame hs rfl ?_, fun hstate => ?_, fun hstate => ?_, fun hstate => ?_⟩
  · rw [hclaim, State.takeClaim, hfound]
    simp only [hheld, ho]
    rfl
  · rw [htakeClaim, State.takeClaim, hfound]
    cases hstate : sl.state with
    | held => exact absurd hstate hnot
    | waiting | queued | running | suspended | stopping => simp only [hstate]
  · have htarget : s.cancelTarget ⟨n, k⟩ sl = s.handleOutcome ⟨n, k⟩ sl.cancelledOutcome := by
      rcases hstate with h | h | h <;> simp only [State.cancelTarget, h]
    rw [hcancel, htarget]
    rfl
  · rw [hcancel]
    simp only [State.cancelTarget, hstate]
  · rw [hcancel]
    simp only [State.cancelTarget, hstate]

/-- Settles O51: each selector is answered with its words, in codes checked kind by kind. -/
theorem queriesAnswer : Obligations.QueriesAnswer := by
  intro s n tag hs answers kind state phase right mode num
  have hanswer (q : Selector) (e : Status) (ws : List Word) (h : s.takeQuery n tag q = s.placeReply n (.answer e tag ws)) :
      answers q e ws := exec_answered (r := .query q) (q.frame_command n tag) hs rfl h
  have hkind (k : DataKind) : BitVec.ofNat 8 k.code.toNat = kind k := by cases k <;> rfl
  have hstate (x : SlotState) : BitVec.ofNat 8 x.code = state x := by cases x <;> rfl
  have hphase (x : Phase) : BitVec.ofNat 8 x.code = phase x := by cases x <;> rfl
  have hright (x : Right) : BitVec.ofNat 8 x.code = right x := by cases x <;> rfl
  have hmode (x : WatchMode) : x.code.toNat = mode x := by cases x <;> rfl
  refine ⟨hanswer _ _ _ rfl, fun m hm hadmin => hanswer _ _ _ ?_, fun m c hor hc => hanswer _ _ _ ?_,
    ⟨(s.slotsByAdmission n).map fun p => p.2, ?_, ?_, hanswer _ _ _ ?_⟩, fun id hid => hanswer _ _ _ ?_,
    fun id g hid => hanswer _ _ _ ?_, hanswer _ _ _ ?_⟩
  · rw [State.takeQuery, if_pos ⟨hm, hadmin⟩]
    rfl
  · have hword : (s.link m).status.word = c := by
      rcases hc with ⟨h, rfl⟩ | ⟨⟨t, h⟩, rfl⟩ | ⟨⟨x, h⟩, rfl⟩ <;> rw [h] <;> rfl
    have hallowed : ¬ (m ≠ n ∧ (s.link n).admin = false) := fun ⟨hm, hadmin⟩ =>
      hor.elim hm fun h => by rw [h] at hadmin; cases hadmin
    rw [State.takeQuery, if_neg hallowed, State.linkWords, hword]
    rfl
  · rw [← State.busyOn_slots]
    exact (s.slotsByAdmission_perm n).map _
  · exact List.pairwise_map.mpr (s.pairwise_slotsByAdmission n)
  · rw [State.takeQuery, State.slotsWords, List.flatMap_map]
    refine congrArg (fun ws => s.placeReply n (.answer .ok tag ws)) (List.flatMap_congr fun p _ => ?_)
    rw [Slot.queryWords, packWord, hkind, hstate, hphase, BitVec.ofNat_toNat, BitVec.setWidth_eq]
    rfl
  · rw [State.takeQuery, State.segmentWords, hid]
    rfl
  · rw [State.takeQuery, State.segmentWords, hid]
    simp only [packWord, hright]
    rfl
  · rw [State.takeQuery, State.watchesWords]
    refine congrArg (fun ws => s.placeReply n (.answer .ok tag ws)) (List.flatMap_congr fun id _ => ?_)
    cases hw : s.watch id with
    | none => simp only [State.ownedWatch, hw, Option.filter_none]
    | some w =>
      by_cases howner : w.owner = n
      · simp only [State.ownedWatch_some hw howner, howner, if_true, Watch.queryWords, packWord, hmode]
        rfl
      · have hnone : s.ownedWatch n id = none := State.ownedWatch_none fun w' hw' => by
          cases hw.symm.trans hw'
          exact howner
        simp only [hnone, howner, if_false]

/-- Settles O52: acceptance is `State.resetLinks`, of one link or of all. -/
theorem resetsAreAccepted : Obligations.ResetsAreAccepted := by
  intro s n tag hs after
  have hafter (s : State) (targets : LinkId → Bool) (cause : ResetCause) : after s targets cause (s.resetLinks targets cause) := by
    refine ⟨fun m hm => ?_, fun m hm => ?_, fun m k hm => ?_, fun id => State.watch_resetLinks targets cause id, rfl, fun a ha => ?_,
      fun hnot => ?_, rfl⟩
    · rw [State.link_resetLinks, hm]
      rfl
    · rw [State.link_resetLinks, if_pos hm]
      rfl
    · rw [State.slot_resetLinks, if_pos hm]
      exact resetSlot_eq _ _
    · show s.port.reset targets = _
      rw [ha, Port.reset]
      cases h : targets a.owner.link <;> simp
    · show s.port.reset targets = s.port
      unfold Port.reset
      split
      · exact absurd ‹_› (hnot _)
      · rfl
  refine ⟨fun t => ?_, ?_⟩
  · intro i
    have hi : i.frame = some (n, (Request.linkreset t).frame tag) := rfl
    have htake : s.takeRequest n tag (.linkreset t) = s.takeLinkreset n tag t := rfl
    refine ⟨fun hother hadmin => exec_answered hi hs rfl ?_, fun hor hbusy => exec_answered hi hs rfl ?_,
      fun hor hidle => ⟨(s.awaitReset n t).resetLinks (fun m => decide (m = t)) (.linkreset n tag), ?_, ?_⟩⟩
    · rw [htake, State.takeLinkreset, if_pos ⟨hother, hadmin⟩]
      rfl
    · rw [htake, State.takeLinkreset, if_neg (fun ⟨hother, hadmin⟩ =>
        hor.elim hother fun h => by rw [h] at hadmin; cases hadmin), if_pos hbusy]
      rfl
    · rw [exec_sendable hi hs rfl, htake, State.takeLinkreset, if_neg (fun ⟨hother, hadmin⟩ =>
        hor.elim hother fun h => by rw [h] at hadmin; cases hadmin), if_neg (by rw [hidle]; exact Bool.false_ne_true)]
    · have hawait : s.awaitReset n t = if t = n then s else s.updLink n fun l => { l with status := .awaiting t } := by
        rw [State.awaitReset]
        exact if_congr eq_comm rfl rfl
      rw [hawait]
      exact hafter _ _ _
  · intro i
    have hi : i.frame = some (n, Request.restart.frame tag) := rfl
    have htake : s.takeRequest n tag .restart = s.takeRestart n tag := rfl
    refine ⟨fun hadmin => exec_answered hi hs rfl ?_, fun hadmin => ⟨s.resetLinks (fun _ => true) (.restart n), ?_, hafter _ _ _⟩⟩
    · rw [htake, State.takeRestart, if_pos hadmin]
      rfl
    · rw [exec_sendable hi hs rfl, htake, State.takeRestart, if_neg (by simp [hadmin])]

end Sys2Proof.Proofs
end

section
/-! PROOFS. What an admission sets off (R62, R69, R85, R86, R91): in a part with nothing left over, a slot that joins is the only
new entry of the Engine Queue or the only new candidate at the Store Port. -/

namespace Sys2Proof.Machine

variable {s t : State} {i j : SlotId} {sl x : Slot}

/-- The earliest of candidates that are all the same. -/
theorem earliest_of_only {l : List (SlotId × Slot)} {p : SlotId × Slot} (hmem : p ∈ l) (honly : ∀ q ∈ l, q = p) :
    earliest l = some p := by
  cases he : earliest l with
  | none =>
    rw [earliest_eq_none.mp he] at hmem
    cases hmem
  | some q => rw [honly q (earliest_mem he).1]

/-- `t` has one slot more than `s`: `i`, FREE in `s`, holds `sl`. -/
structure State.JoinedBy (s : State) (i : SlotId) (sl : Slot) (t : State) : Prop where
  free : s.slot i = none
  joined : t.slot i = some sl
  others : ∀ j, j ≠ i → t.slot j = s.slot j

namespace State.JoinedBy

theorem kept (h : s.JoinedBy i sl t) (hx : s.slot j = some x) : t.slot j = some x := by
  rw [h.others j]
  · exact hx
  · rintro rfl
    rw [h.free] at hx
    cases hx

/-- The slots of `t` but for the one that joined are slots of `s`. -/
theorem was (h : s.JoinedBy i sl t) (hx : t.slot j = some x) (hj : j ≠ i) : s.slot j = some x := by
  rw [← h.others j hj]
  exact hx

theorem clearOfClaims_was (h : s.JoinedBy i sl t) {cs : List Claim} (hclear : t.clearOfClaims j cs = true) :
    s.clearOfClaims j cs = true :=
  State.clearOfClaims_iff.mpr fun k y hk hy => State.clearOfClaims_iff.mp hclear k y hk (h.kept hy)

/-- What the joining slot asks for stays free of the others' claims. -/
theorem clearOfClaims_joined (h : s.JoinedBy i sl t) {cs : List Claim} (hclear : s.clearOfClaims i cs = true) :
    t.clearOfClaims i cs = true :=
  State.clearOfClaims_iff.mpr fun k y hk hy => State.clearOfClaims_iff.mp hclear k y hk (h.was hy hk)

theorem engineEligible_was (h : s.JoinedBy i sl t) (hel : t.engineEligible j x = true) : s.engineEligible j x = true := by
  rw [State.engineEligible_iff] at hel ⊢
  rcases hel with hsus | ⟨hclear, hmark, hfirst⟩
  · exact .inl hsus
  · exact .inr ⟨h.clearOfClaims_was hclear, hmark, fun k y hy => hfirst k y (h.kept hy)⟩

theorem mem_directCandidates_was (h : s.JoinedBy i sl t) (hidle : s.port = .idle) (hmem : (j, x) ∈ t.directCandidates)
    (hj : j ≠ i) : (j, x) ∈ s.directCandidates := by
  obtain ⟨hslot, hwaits, -, hclear, hfirst⟩ := State.mem_directCandidates.mp hmem
  refine State.mem_directCandidates.mpr ⟨h.was hslot hj, hwaits, ?_, h.clearOfClaims_was hclear, fun k y hy => hfirst k y (h.kept hy)⟩
  simp only [State.inAccess, hidle]

theorem engineBusy_was (h : s.JoinedBy i sl t) (hsl : sl.state.inEngine = false) (hbusy : t.engineBusy = true) :
    s.engineBusy = true := by
  obtain ⟨k, y, hy, hor⟩ := State.engineBusy_iff.mp hbusy
  refine State.engineBusy_iff.mpr ⟨k, y, h.was hy ?_, hor⟩
  rintro rfl
  obtain rfl := Option.some.inj (h.joined.symm.trans hy)
  rcases hor with hst | hst <;> rw [hst] at hsl <;> cases hsl

/-- In a part whose engine has nothing to dispatch, no entry but the one that joined is eligible, unless the engine is busy. -/
theorem not_engineEligible (h : s.JoinedBy i sl t) (hquiet : s.engineQuiet = true) (hbusy : t.engineBusy = false)
    (hmem : (j, x) ∈ t.engineQueue) (hj : j ≠ i) : ¬ t.engineEligible j x = true := by
  intro hel
  obtain ⟨hslot, hstate⟩ := State.mem_engineQueue.mp hmem
  rcases Bool.or_eq_true_iff.mp hquiet with hb | hnone
  · obtain ⟨k, y, hy, hor⟩ := State.engineBusy_iff.mp hb
    rw [State.engineBusy_iff.mpr ⟨k, y, h.kept hy, hor⟩] at hbusy
    cases hbusy
  · have hfirst : s.firstEligible = none := Option.isNone_iff_eq_none.mp hnone
    exact List.find?_eq_none.mp hfirst (j, x) (State.mem_engineQueue.mpr ⟨h.was hslot hj, hstate⟩) (h.engineEligible_was hel)

/-- A reset that waits for a STOPPING slot still does. -/
theorem resetsQuiet (h : s.JoinedBy i sl t) (hstatus : ∀ n, (t.link n).status = (s.link n).status)
    (hquiet : s.resetsQuiet = true) : t.resetsQuiet = true := by
  have hrestart : t.restartInProgress = s.restartInProgress := by simp only [State.restartInProgress, hstatus]
  have hresetting (m : LinkId) : (t.link m).isResetting = (s.link m).isResetting := by simp only [Link.isResetting, hstatus]
  unfold State.resetsQuiet at hquiet ⊢
  rw [hrestart]
  split
  · rw [if_pos ‹_›] at hquiet
    obtain ⟨k, y, hy, hst⟩ := State.stopping_iff.mp hquiet
    exact State.stopping_iff.mpr ⟨k, y, h.kept hy, hst⟩
  · rw [if_neg ‹_›, List.all_eq_true] at hquiet
    refine List.all_eq_true.mpr fun m hm => ?_
    rcases Bool.or_eq_true_iff.mp (hquiet m hm) with hopen | hstop
    · rw [hresetting, hopen, Bool.true_or]
    · obtain ⟨k, y, hy, hst⟩ := State.stoppingOn_iff.mp hstop
      rw [State.stoppingOn_iff.mpr ⟨k, y, h.kept hy, hst⟩, Bool.or_true]

/-- A slot that joins WAITING leaves the engine nothing to dispatch. -/
theorem dispatch_waiting (h : s.JoinedBy i sl t) (hquiet : s.engineQuiet = true) (hwaits : sl.state = .waiting) :
    t.dispatch = t := by
  rcases t.dispatch_cases with hsame | ⟨j, x, hslot, hstate, hel, hbusy, -⟩
  · exact hsame
  · refine absurd hel (h.not_engineEligible hquiet hbusy (State.mem_engineQueue.mpr ⟨hslot, hstate⟩) ?_)
    rintro rfl
    obtain rfl := Option.some.inj (h.joined.symm.trans hslot)
    rw [hwaits] at hstate
    rcases hstate with h | h <;> cases h

/-- Where no posted WRITE of its link waits, the slot that joined has none before it. -/
theorem none_posted_before {n : LinkId} {k : SlotIdx} (h : s.JoinedBy ⟨n, k⟩ sl t)
    (hposted : ∀ j x, s.slot ⟨n, j⟩ = some x → ¬ (x.state = .waiting ∧ x.phase = .silent)) (j : SlotIdx) (x : Slot)
    (hx : t.slot ⟨n, j⟩ = some x) (hwaits : x.state = .waiting) (hsilent : x.phase = .silent) : sl.admission ≤ x.admission := by
  by_cases hjk : j = k
  · subst hjk
    obtain rfl := Option.some.inj (h.joined.symm.trans hx)
    exact Nat.le_refl _
  · refine absurd ⟨hwaits, hsilent⟩ (hposted j x (h.was hx fun heq => hjk ?_))
    cases heq
    rfl

/-- The slot that joined is the only candidate of a port that had none. -/
theorem earliest_joined (h : s.JoinedBy i sl t) (hidle : s.port = .idle) (hnone : s.directCandidates = [])
    (hmem : (i, sl) ∈ t.directCandidates) : earliest t.directCandidates = some (i, sl) := by
  refine earliest_of_only hmem fun q hq => ?_
  obtain ⟨j, x⟩ := q
  by_cases hj : j = i
  · subst hj
    rw [Option.some.inj ((State.mem_directCandidates.mp hq).1.symm.trans h.joined)]
  · have := h.mem_directCandidates_was hidle hq hj
    rw [hnone] at this
    cases this

theorem directCandidates_nil (h : s.JoinedBy i sl t) (hidle : s.port = .idle) (hnone : s.directCandidates = [])
    (hnot : sl.state ≠ .waiting) : t.directCandidates = [] := by
  refine List.eq_nil_iff_forall_not_mem.mpr fun ⟨j, x⟩ hq => ?_
  by_cases hj : j = i
  · subst hj
    obtain ⟨hslot, hwaits, -⟩ := State.mem_directCandidates.mp hq
    obtain rfl := Option.some.inj (h.joined.symm.trans hslot)
    exact hnot hwaits
  · have := h.mem_directCandidates_was hidle hq hj
    rw [hnone] at this
    cases this

/-- The slot that joined is the only eligible entry of an engine that had none. -/
theorem dispatch_queued (h : s.JoinedBy i sl t) (hquiet : s.engineQuiet = true) (hidle : t.engineBusy = false)
    (hqueued : sl.state = .queued) (hel : t.engineEligible i sl = true) : t.dispatch = t.startOperation i sl := by
  have hfirst : t.firstEligible = some (i, sl) := by
    cases hf : t.firstEligible with
    | none => exact absurd hel (List.find?_eq_none.mp hf _ (State.mem_engineQueue.mpr ⟨h.joined, .inl hqueued⟩))
    | some q =>
      obtain ⟨j, x⟩ := q
      have hq := List.mem_of_find?_eq_some hf
      by_cases hj : j = i
      · subst hj
        rw [Option.some.inj ((State.mem_engineQueue.mp hq).1.symm.trans h.joined)]
      · exact absurd (List.find?_some hf) (h.not_engineEligible hquiet hidle hq hj)
  simp only [State.dispatch, hidle, hfirst, Bool.false_eq_true, if_false]

theorem startOperation (h : s.JoinedBy i sl t) : s.JoinedBy i { sl with state := .running } (t.startOperation i sl) where
  free := h.free
  joined := (State.slot_setSlot _ _ _ _).trans (if_pos rfl)
  others j hj := ((State.slot_setSlot _ _ _ _).trans (if_neg fun heq => hj heq.symm)).trans (h.others j hj)

end State.JoinedBy

/-- A port with nothing to start and no access in progress has no stride asked for and no candidate. -/
theorem State.portQuiet_idle (hquiet : s.portQuiet = true) (hidle : s.port = .idle) :
    s.stride = none ∧ s.directCandidates = [] := by
  simpa [State.portQuiet, hidle] using hquiet

theorem State.status_admission {n : LinkId} (k : SlotIdx) (tag : Tag) (r : DataRequest) (job : Job Operand) (m : LinkId) :
    ((s.admission n k tag r job).link m).status = (s.link m).status := by
  rw [State.link_admission]
  split
  · split <;> rfl
  · rfl

theorem State.admission_rest {n : LinkId} (k : SlotIdx) (tag : Tag) (r : DataRequest) (job : Job Operand) :
    (s.admission n k tag r job).port = s.port ∧ (s.admission n k tag r job).stride = s.stride := by
  unfold State.admission
  split <;> exact ⟨rfl, rfl⟩

theorem State.joinedBy_admission {n : LinkId} {k : SlotIdx} (hfree : s.slot ⟨n, k⟩ = none) (tag : Tag) (r : DataRequest)
    (job : Job Operand) : s.JoinedBy ⟨n, k⟩ (s.admitted n tag r job) (s.admission n k tag r job) where
  free := hfree
  joined := by rw [State.slot_admitted, if_pos rfl]
  others j hj := by rw [State.slot_admitted, if_neg fun h => hj h.symm]

theorem State.admitted_record {n : LinkId} (tag : Tag) (r : DataRequest) (job : Job Operand) :
    (s.admitted n tag r job).job = job ∧ (s.admitted n tag r job).data = r.data ∧
      (s.admitted n tag r job).cursor = job.startCursor ∧ (s.admitted n tag r job).cancelMark = false ∧
      (s.admitted n tag r job).state = if job.isBlock then .queued else .waiting := by
  unfold State.admitted
  split <;> exact ⟨rfl, rfl, rfl, rfl, rfl⟩

end Sys2Proof.Machine

namespace Sys2Proof.Proofs

open Sys2Proof Sys2Proof.Machine

/-- Settles O46: no reset can complete, so dispatch and the port meet the admitted request at once. -/
theorem admittedRequestStartsAtOnce : Obligations.AdmittedRequestStartsAtOnce := by
  intro s n tag k r job hs hr hmap htag hfree hbefore hjob hclear hposted hidle
  obtain ⟨-, -, hresets, hengine, hport, hinbox⟩ := State.serves_iff.mp hs
  obtain ⟨hstride, hnone⟩ := State.portQuiet_idle hport hidle
  have hjoined := State.joinedBy_admission (s := s) hfree tag r job
  obtain ⟨hrecJob, hrecData, hrecCursor, hrecMark, hrecState⟩ := State.admitted_record (s := s) (n := n) tag r job
  obtain ⟨hport', hstride'⟩ := State.admission_rest (s := s) (n := n) k tag r job
  have hcomplete : (s.admission n k tag r job).completeResets = s.admission n k tag r job :=
    State.completeResets_quiet (hjoined.resetsQuiet (State.status_admission k tag r job) hresets)
  have hexec : exec (r.command n tag) s = .next (s.admission n k tag r job).dispatch.portChoose.arbitrate := by
    have htake : s.takeRequest n tag (.data r) = s.admission n k tag r job :=
      State.takeData_admission hmap (State.slotWithTag_none.mpr htag) (State.lowestFree_eq hfree hbefore) hjob
    rw [exec_sendable (r.frame_command n tag) hs hr, htake, State.settle_inboxesEmpty fun m =>
      State.keepsEmpty_react m (State.keepsEmpty_admission n k tag r job m (hinbox m)), State.react, hcomplete]
  generalize hsl : s.admitted n tag r job = sl at *
  generalize s.admission n k tag r job = t at *
  have hbefore' := hjoined.none_posted_before hposted
  refine ⟨fun hdirect => ?_, fun hblock hbusy => ?_⟩
  · have hwaits : sl.state = .waiting := by rw [hrecState, hdirect]; rfl
    have hmem : (⟨n, k⟩, sl) ∈ t.directCandidates :=
      State.mem_directCandidates.mpr ⟨hjoined.joined, hwaits, by simp only [State.inAccess, hport', hidle],
        by rw [hrecJob]; exact hjoined.clearOfClaims_joined hclear, hbefore'⟩
    have hchoose : t.portChoose = t.startDirect ⟨n, k⟩ sl := by
      simp only [State.portChoose, hport', hidle, hstride', hstride, hjoined.earliest_joined hidle hnone hmem]
    refine ⟨_, hexec, ?_, ?_⟩
    · rw [hjoined.dispatch_waiting hengine hwaits, hchoose]
      rfl
    · rw [hjoined.dispatch_waiting hengine hwaits, hchoose, ← hrecJob, ← hrecData]
      rfl
  · have hqueued : sl.state = .queued := by rw [hrecState, hblock]; rfl
    have hidleEngine : t.engineBusy = false := by
      rw [Bool.eq_false_iff]
      intro h
      rw [hjoined.engineBusy_was (by rw [hqueued]; rfl) h] at hbusy
      cases hbusy
    have hel : t.engineEligible ⟨n, k⟩ sl = true := State.engineEligible_iff.mpr
      (.inr ⟨by rw [hrecJob]; exact hjoined.clearOfClaims_joined hclear, hrecMark, hbefore'⟩)
    have hdispatch := hjoined.dispatch_queued hengine hidleEngine hqueued hel
    have hstarted := hjoined.startOperation
    have hchoose : (t.startOperation ⟨n, k⟩ sl).portChoose = (t.startOperation ⟨n, k⟩ sl).startStride (nextStride ⟨n, k⟩ sl) := by
      have hp : (t.startOperation ⟨n, k⟩ sl).port = .idle := hport'.trans hidle
      have hr : (t.startOperation ⟨n, k⟩ sl).stride = some (nextStride ⟨n, k⟩ sl) := rfl
      simp only [State.portChoose, hp, hr, hstarted.directCandidates_nil hidle hnone (by simp), earliest]
    have hslot : t.dispatch.portChoose.arbitrate.slot ⟨n, k⟩ = some { sl with state := .running } := by
      rw [State.slot_arbitrate, hdispatch, hchoose]
      exact hstarted.joined
    refine ⟨_, { sl with state := .running }, hexec, hslot, rfl, hrecJob, hrecCursor, ?_, ?_⟩
    · rw [hdispatch, hchoose]
      rfl
    · rw [hdispatch, hchoose]
      show Port.stride (nextStride ⟨n, k⟩ sl) = _
      have hdone : job.startCursor.done = 0 := by
        cases job with
        | copy a b =>
          simp only [Job.startCursor]
          split <;> rfl
        | read _ | write _ | exchange _ _ _ _ | find _ _ _ _ | fold _ _ _ | apply _ _ _ | map _ _ _ => rfl
      rw [nextStride, hrecJob, hrecCursor, hdone, Nat.sub_zero]
      rfl

end Sys2Proof.Proofs
end

section
/-! PROOFS. The first checks of a request frame (R7, R8, R171): BADKIND, BADLEN and BADARG. Each kind's payload is read when its
length is one the kind allows, and then refused exactly when a field is out of its range. -/

namespace Sys2Proof.Machine

variable {s t : State}

/-! ### What reading the fields of a payload comes to -/

/-- BADARG exactly when `bad`, and a request otherwise. -/
def FieldsRead (res : Except Status Request) (bad : Prop) : Prop :=
  (bad → res = .error .badArg) ∧ (¬ bad → ∃ r, res = .ok r)

namespace FieldsRead

variable {res : Except Status Request} {bad bad' : Prop}

theorem ok (r : Request) : FieldsRead (.ok r) False := ⟨False.elim, fun _ => ⟨r, rfl⟩⟩

theorem congr (h : FieldsRead res bad) (hiff : bad ↔ bad') : FieldsRead res bad' :=
  ⟨fun hb => h.1 (hiff.mpr hb), fun hb => h.2 fun hbad => hb (hiff.mp hbad)⟩

/-- A field read by its range, and the fields behind it. -/
theorem bind {α : Type} {o : Option α} {f : α → Except Status Request} (ho : o = none ↔ bad)
    (hf : ∀ a, o = some a → FieldsRead (f a) bad') : FieldsRead (inRange o >>= f) (bad ∨ bad') := by
  cases o with
  | none => exact ⟨fun _ => rfl, fun h => absurd (.inl (ho.mp rfl)) h⟩
  | some a =>
    have hnot : ¬ bad := fun h => nomatch ho.mpr h
    exact ⟨fun h => (hf a rfl).1 (h.resolve_left hnot), fun h => (hf a rfl).2 fun hb => h (.inr hb)⟩

/-- The last field, and the request. -/
theorem last {α : Type} {o : Option α} {f : α → Request} (ho : o = none ↔ bad) :
    FieldsRead (inRange o >>= fun a => .ok (f a)) bad :=
  (bind ho fun a _ => ok (f a)).congr (iff_of_eq (or_false bad))

end FieldsRead

/-! ### The ranges of the codes -/

theorem below_eq_none {bound : Nat} {o : Octet} : below bound o = none ↔ bound ≤ o.toNat := by
  unfold below
  split
  · rename_i h
    exact ⟨fun h' => (nomatch h'), fun h' => by omega⟩
  · rename_i h
    exact ⟨fun _ => by omega, fun _ => rfl⟩

theorem FindTest.ofCode_eq_none (o : Octet) : FindTest.ofCode o = none ↔ 5 < o.toNat := by revert o; decide

theorem FoldFn.ofCode_eq_none (o : Octet) : FoldFn.ofCode o = none ↔ 3 < o.toNat := by revert o; decide

theorem ApplyFn.ofCode_eq_none (o : Octet) : ApplyFn.ofCode o = none ↔ 4 < o.toNat := by revert o; decide

theorem MapMode.ofCode_eq_none (o : Octet) : MapMode.ofCode o = none ↔ 1 < o.toNat := by revert o; decide

theorem WatchMode.ofCode_eq_none (o : Octet) : WatchMode.ofCode o = none ↔ 1 < o.toNat := by revert o; decide

theorem switchOf_eq_none (o : Octet) : switchOf o = none ↔ 1 < o.toNat := by revert o; decide

theorem Right.ofCode_eq_none (o : Octet) : Right.ofCode o = Option.none ↔ 2 < o.toNat := by revert o; decide

theorem half_toNat (a b : Octet) : (half a b).toNat = 256 * a.toNat + b.toNat := by
  rw [half, BitVec.toNat_append, ← Nat.shiftLeft_add_eq_or_of_lt b.isLt, Nat.shiftLeft_eq]
  omega

/-- A parameter's code and value are out of range (R179). -/
theorem parameterOf_eq_none {c : Octet} {v : Half} : parameterOf c v = none ↔
    4 < c.toNat ∨ (c.toNat = 2 ∨ c.toNat = 4) ∧ 1 < v.toNat ∨ c.toNat = 3 ∧ 3 < v.toNat := by
  unfold parameterOf
  split_ifs <;> simp only [false_iff, true_iff] <;> bv_omega

theorem parameterOf_admin_off {c : Octet} {v : Half} :
    parameterOf c v = some (.admin false) ↔ c.toNat = 4 ∧ v.toNat = 0 := by
  unfold parameterOf
  split_ifs <;> simp <;> bv_omega

/-! ### The length of a WRITE -/

theorem length_of_wordsOf {os : List Octet} {ws : List Word} (h : wordsOf os = some ws) : os.length = 4 * ws.length := by
  rw [← wordsOctets_of_wordsOf h, wordsOctets_length]

theorem wordsOf_isSome : ∀ (n : Nat) (os : List Octet), os.length = 4 * n → ∃ ws, wordsOf os = some ws
  | 0, [], _ => ⟨[], rfl⟩
  | n + 1, os, h => by
    have h : os.length = 4 * n + 4 := h
    match os, h with
    | a :: b :: c :: d :: rest, h =>
      obtain ⟨ws, hws⟩ := wordsOf_isSome n rest (by simpa using h)
      exact ⟨word a b c d :: ws, by simp only [wordsOf, hws]; rfl⟩

theorem parseWrite_ok {posted : Bool} {p : List Octet} (hlo : 7 ≤ p.length) (hhi : p.length ≤ 259) (hmod : p.length % 4 = 3) :
    ∃ r, parseWrite posted p = .ok r := by
  match p, hlo, hhi, hmod with
  | a :: b :: c :: rest, hlo, hhi, hmod =>
    simp only [List.length_cons] at hlo hhi hmod
    obtain ⟨ws, hws⟩ := wordsOf_isSome (rest.length / 4) rest (by omega)
    have hlen := length_of_wordsOf hws
    refine ⟨.data { job := .write ⟨a, num b c, ws.length⟩, posted := posted, data := ws }, ?_⟩
    simp only [parseWrite, hws]
    exact if_neg (by omega)

theorem parseWrite_badLen {posted : Bool} {p : List Octet} (h : ¬ (7 ≤ p.length ∧ p.length ≤ 259 ∧ p.length % 4 = 3)) :
    parseWrite posted p = .error .badLen := by
  unfold parseWrite
  split
  · rename_i a b c rest
    split
    · rename_i ws hws
      have hlen := length_of_wordsOf hws
      simp only [List.length_cons] at h
      rw [if_pos (by omega)]
    · rfl
  · rfl

/-! ### LINKSET and QUERY -/

theorem below_toNat {bound : Nat} {o : Octet} {x : Fin bound} (h : below bound o = some x) : x.val = o.toNat := by
  unfold below at h
  split at h <;> cases h
  rfl

theorem parseLinkset_fields (t c v1 v0 : Octet) : FieldsRead (parseLinkset [t, c, v1, v0])
    (3 < t.toNat ∨ 4 < c.toNat ∨ (c.toNat = 2 ∨ c.toNat = 4) ∧ 1 < 256 * v1.toNat + v0.toNat ∨
      c.toNat = 3 ∧ 3 < 256 * v1.toNat + v0.toNat ∨
      c.toNat = 4 ∧ t.toNat = 0 ∧ 256 * v1.toNat + v0.toNat = 0) := by
  have hvalue := half_toNat v1 v0
  refine (FieldsRead.bind below_eq_none fun target htarget => FieldsRead.bind parameterOf_eq_none fun p hp =>
    (?_ : FieldsRead _ (c.toNat = 4 ∧ t.toNat = 0 ∧ 256 * v1.toNat + v0.toNat = 0))).congr (by rw [hvalue]; tauto)
  have hoff : p = .admin false ∧ target = 0 ↔ c.toNat = 4 ∧ t.toNat = 0 ∧ 256 * v1.toNat + v0.toNat = 0 := by
    have hparam : p = .admin false ↔ c.toNat = 4 ∧ (half v1 v0).toNat = 0 := by
      rw [← parameterOf_admin_off, hp, Option.some.injEq]
    have hzero : target = 0 ↔ t.toNat = 0 := by
      rw [← below_toNat htarget]
      exact Fin.ext_iff
    rw [hparam, hzero, hvalue]
    tauto
  exact FieldsRead.congr ⟨fun h => if_pos h, fun h => ⟨_, if_neg h⟩⟩ hoff

theorem parseQuery_fields (c a : Octet) : FieldsRead (parseQuery [c, a])
    (4 < c.toNat ∨ c.toNat = 1 ∧ 3 < a.toNat ∨ c.toNat = 3 ∧ 63 < a.toNat ∨
      (c.toNat = 0 ∨ c.toNat = 2 ∨ c.toNat = 4) ∧ a.toNat ≠ 0) := by
  have hzero (r : Request) : FieldsRead (if a = 0 then .ok r else .error .badArg) (a.toNat ≠ 0) := by
    by_cases h : a = 0
    · rw [if_pos h]
      exact (FieldsRead.ok r).congr (by rw [h]; simp)
    · rw [if_neg h]
      exact ⟨fun _ => rfl, fun hnot => absurd (BitVec.eq_of_toNat_eq (not_not.mp hnot)) h⟩
  simp only [parseQuery]
  by_cases h0 : c = 0
  · rw [if_pos h0]
    exact (hzero _).congr (by rw [h0]; simp)
  rw [if_neg h0]
  by_cases h1 : c = 1
  · rw [if_pos h1]
    exact (FieldsRead.last below_eq_none).congr (by rw [h1]; simp; omega)
  rw [if_neg h1]
  by_cases h2 : c = 2
  · rw [if_pos h2]
    exact (hzero _).congr (by rw [h2]; simp)
  rw [if_neg h2]
  by_cases h3 : c = 3
  · rw [if_pos h3]
    exact (FieldsRead.last below_eq_none).congr (by rw [h3]; simp; omega)
  rw [if_neg h3]
  by_cases h4 : c = 4
  · rw [if_pos h4]
    exact (hzero _).congr (by rw [h4]; simp)
  rw [if_neg h4]
  have hover : 4 < c.toNat := by bv_omega
  exact ⟨fun _ => rfl, fun hnot => absurd (.inl hover) hnot⟩

/-! ### Payloads by their kinds -/

/-- The octet at a place of a payload, as a number. -/
def fieldAt (p : List Octet) (i : Nat) : Nat := (p[i]?.getD 0).toNat

/-- A field of a payload is out of the range that its kind gives it (R8, R44, R46, R107, R130, R137, R138, R179, R181, R184). -/
def fieldsOut (k : RequestKind) (p : List Octet) : Prop :=
  match k with
  | .data .read => fieldAt p 3 = 0 ∨ 64 < fieldAt p 3
  | .data .find => 5 < fieldAt p 5
  | .data .fold => 3 < fieldAt p 5
  | .data .apply => 4 < fieldAt p 5
  | .data .map => 1 < fieldAt p 8
  | .watch => 63 < fieldAt p 0 ∨ 1 < fieldAt p 5 ∨ 1 < fieldAt p 6
  | .rearm | .unwatch => 31 < fieldAt p 0
  | .define => 63 < fieldAt p 0 ∨ 2 < fieldAt p 5 ∨ 2 < fieldAt p 6 ∨ 2 < fieldAt p 7 ∨ 2 < fieldAt p 8
  | .drop => 63 < fieldAt p 0
  | .linkset => 3 < fieldAt p 0 ∨ 4 < fieldAt p 1 ∨
      (fieldAt p 1 = 2 ∨ fieldAt p 1 = 4) ∧ 1 < 256 * fieldAt p 2 + fieldAt p 3 ∨
      fieldAt p 1 = 3 ∧ 3 < 256 * fieldAt p 2 + fieldAt p 3 ∨
      fieldAt p 1 = 4 ∧ fieldAt p 0 = 0 ∧ 256 * fieldAt p 2 + fieldAt p 3 = 0
  | .query => 4 < fieldAt p 0 ∨ fieldAt p 0 = 1 ∧ 3 < fieldAt p 1 ∨ fieldAt p 0 = 3 ∧ 63 < fieldAt p 1 ∨
      (fieldAt p 0 = 0 ∨ fieldAt p 0 = 2 ∨ fieldAt p 0 = 4) ∧ fieldAt p 1 ≠ 0
  | .linkreset => 3 < fieldAt p 0
  | _ => False

/-- The lengths that a kind allows its payload (R173 to R175). -/
def lengthFits (k : RequestKind) (len : Nat) : Prop :=
  match k with
  | .data .read => len = 4
  | .data .write => 7 ≤ len ∧ len ≤ 259 ∧ len % 4 = 3
  | .data .exchange => len = 15
  | .data .copy => len = 8
  | .data .find => len = 14
  | .data .fold | .data .apply => len = 10
  | .data .map => len = 9
  | .claim | .cancel | .restart => len = 0
  | .watch => len = 7
  | .rearm | .unwatch | .drop | .linkreset => len = 1
  | .define => len = 9
  | .linkset => len = 4
  | .query => len = 2

theorem lengthFits_iff (k : RequestKind) (len : Nat) : lengthAllowed k.code len ↔ lengthFits k len := by
  cases k with
  | data d => cases d <;> simp [lengthAllowed, lengthFits, RequestKind.code, DataKind.code]
  | claim | cancel | watch | rearm | unwatch | define | drop | linkset | query | linkreset | restart =>
    simp [lengthAllowed, lengthFits, RequestKind.code]

theorem parsePayload_badLen {flags : Octet} {p : List Octet} {k : RequestKind} (h : ¬ lengthFits k p.length) :
    parsePayload flags p k = .error .badLen := by
  cases k with
  | data d =>
    cases d with
    | write => exact parseWrite_badLen h
    | read => show parseRead p = _; unfold parseRead; split <;> [exact absurd rfl h; rfl]
    | exchange => show parseExchange p = _; unfold parseExchange; split <;> [exact absurd rfl h; rfl]
    | copy => show parseCopy p = _; unfold parseCopy; split <;> [exact absurd rfl h; rfl]
    | find => show parseFind p = _; unfold parseFind; split <;> [exact absurd rfl h; rfl]
    | fold => show parseFold p = _; unfold parseFold; split <;> [exact absurd rfl h; rfl]
    | apply => show parseApply p = _; unfold parseApply; split <;> [exact absurd rfl h; rfl]
    | map => show parseMap p = _; unfold parseMap; split <;> [exact absurd rfl h; rfl]
  | claim | cancel | restart => show parseEmpty _ p = _; unfold parseEmpty; split <;> [exact absurd rfl h; rfl]
  | watch => show parseWatch p = _; unfold parseWatch; split <;> [exact absurd rfl h; rfl]
  | rearm => show parseRearm p = _; unfold parseRearm; split <;> [exact absurd rfl h; rfl]
  | unwatch => show parseUnwatch p = _; unfold parseUnwatch; split <;> [exact absurd rfl h; rfl]
  | define => show parseDefine p = _; unfold parseDefine; split <;> [exact absurd rfl h; rfl]
  | drop => show parseDrop p = _; unfold parseDrop; split <;> [exact absurd rfl h; rfl]
  | linkset => show parseLinkset p = _; unfold parseLinkset; split <;> [exact absurd rfl h; rfl]
  | query => show parseQuery p = _; unfold parseQuery; split <;> [exact absurd rfl h; rfl]
  | linkreset => show parseLinkreset p = _; unfold parseLinkreset; split <;> [exact absurd rfl h; rfl]

theorem parsePayload_fields {flags : Octet} {p : List Octet} {k : RequestKind} (h : lengthFits k p.length) :
    FieldsRead (parsePayload flags p k) (fieldsOut k p) := by
  cases k with
  | data d =>
    cases d with
    | read =>
      match p, h with
      | [s, o1, o0, c], _ => 
        exact ⟨fun hbad => if_pos hbad, fun hok => ⟨_, if_neg hok⟩⟩
    | write =>
      obtain ⟨hlo, hhi, hmod⟩ := h
      exact ⟨False.elim, fun _ => parseWrite_ok hlo hhi hmod⟩
    | exchange => match p, h with | [s, o1, o0, c3, c2, c1, c0, m3, m2, m1, m0, n3, n2, n1, n0], _ => exact .ok _
    | copy => match p, h with | [s, o1, o0, c1, c0, d, d1, d0], _ => exact .ok _
    | find =>
      match p, h with
      | [s, o1, o0, c1, c0, t, v3, v2, v1, v0, m3, m2, m1, m0], _ => exact .last (FindTest.ofCode_eq_none t)
    | fold => match p, h with | [s, o1, o0, c1, c0, f, i3, i2, i1, i0], _ => exact .last (FoldFn.ofCode_eq_none f)
    | apply => match p, h with | [s, o1, o0, c1, c0, f, x3, x2, x1, x0], _ => exact .last (ApplyFn.ofCode_eq_none f)
    | map => match p, h with | [s, o1, o0, c1, c0, t, t1, t0, m], _ => exact .last (MapMode.ofCode_eq_none m)
  | claim | cancel | restart => match p, h with | [], _ => exact .ok _
  | watch =>
    match p, h with
    | [s, o1, o0, c1, c0, m, w], _ =>
      exact .bind below_eq_none fun _ _ => .bind (WatchMode.ofCode_eq_none m) fun _ _ => .last (switchOf_eq_none w)
  | rearm | unwatch => match p, h with | [w], _ => exact .last below_eq_none
  | define =>
    match p, h with
    | [s, b1, b0, l1, l0, r0, r1, r2, r3], _ =>
      exact .bind below_eq_none fun _ _ => .bind (Right.ofCode_eq_none r0) fun _ _ => .bind (Right.ofCode_eq_none r1) fun _ _ =>
        .bind (Right.ofCode_eq_none r2) fun _ _ => .last (Right.ofCode_eq_none r3)
  | drop => match p, h with | [s], _ => exact .last below_eq_none
  | linkset => match p, h with | [t, c, v1, v0], _ => exact parseLinkset_fields t c v1 v0
  | query => match p, h with | [c, a], _ => exact parseQuery_fields c a
  | linkreset => match p, h with | [t], _ => exact .last below_eq_none

theorem flagsFit_iff {k : RequestKind} {flags : Octet} : flagsFit k flags = true ↔ flags = 0 ∨ k = .data .write ∧ flags = 1 := by
  cases k with
  | data d => cases d <;> simp [flagsFit]
  | claim | cancel | watch | rearm | unwatch | define | drop | linkset | query | linkreset | restart => simp [flagsFit]

/-! ### Frames -/

section Frames

variable {f : Frame} {k : RequestKind}

theorem parseFrame_of_error (hk : RequestKind.ofCode f.kind = some k) (hlen : f.length.toNat = f.payload.length) {e : Status}
    (h : parsePayload f.flags f.payload k = .error e) : parseFrame f = .error e := by
  simp only [parseFrame, hk, hlen, ne_eq, not_true_eq_false, if_false, h]

theorem parseFrame_of_ok (hk : RequestKind.ofCode f.kind = some k) (hlen : f.length.toNat = f.payload.length) {r : Request}
    (h : parsePayload f.flags f.payload k = .ok r) :
    parseFrame f = if flagsFit k f.flags then .ok r else .error .badArg := by
  simp only [parseFrame, hk, hlen, ne_eq, not_true_eq_false, if_false, h]

theorem parseFrame_badLen (hk : RequestKind.ofCode f.kind = some k)
    (h : f.length.toNat ≠ f.payload.length ∨ ¬ lengthAllowed f.kind f.payload.length) : parseFrame f = .error .badLen := by
  by_cases hlen : f.length.toNat = f.payload.length
  · refine parseFrame_of_error hk hlen (parsePayload_badLen fun hfits => ?_)
    rw [← lengthFits_iff, RequestKind.code_of_ofCode hk] at hfits
    exact h.elim (fun hne => hne hlen) fun hnot => hnot hfits
  · simp only [parseFrame, hk, ne_eq, hlen, not_false_eq_true, if_true]

/-- A frame of an allowed length is refused BADARG for its fields, whatever its flags. -/
theorem parseFrame_fieldsOut (hk : RequestKind.ofCode f.kind = some k) (hlen : f.length.toNat = f.payload.length)
    (hfits : lengthAllowed f.kind f.payload.length) (hout : fieldsOut k f.payload) : parseFrame f = .error .badArg := by
  rw [← RequestKind.code_of_ofCode hk, lengthFits_iff] at hfits
  exact parseFrame_of_error hk hlen ((parsePayload_fields hfits).1 hout)

/-- With its fields in range it has a request, unless it carries a flag that its kind does not allow. -/
theorem parseFrame_fieldsIn (hk : RequestKind.ofCode f.kind = some k) (hlen : f.length.toNat = f.payload.length)
    (hfits : lengthAllowed f.kind f.payload.length) (hin : ¬ fieldsOut k f.payload) :
    ∃ r, parseFrame f = if flagsFit k f.flags then .ok r else .error .badArg := by
  rw [← RequestKind.code_of_ofCode hk, lengthFits_iff] at hfits
  obtain ⟨r, hr⟩ := (parsePayload_fields hfits).2 hin
  exact ⟨r, parseFrame_of_ok hk hlen hr⟩

/-- A length is allowed to a request kind alone. -/
theorem mem_requestCodes_of_lengthAllowed {len : Nat} {kind : Octet} (h : lengthAllowed kind len) : kind ∈ requestCodes := by
  simp only [lengthAllowed] at h
  simp only [requestCodes, List.mem_cons, List.not_mem_nil, or_false]
  tauto

theorem parseFrame_badKind (h : f.kind ∉ requestCodes) : parseFrame f = .error .badKind := by
  simp only [parseFrame, (RequestKind.ofCode_eq_none f.kind).mpr h]

theorem exists_requestKind (h : f.kind ∈ requestCodes) : ∃ k, RequestKind.ofCode f.kind = some k :=
  Option.ne_none_iff_exists'.mp fun hnone => (RequestKind.ofCode_eq_none f.kind).mp hnone h

theorem flagsFit_code (hk : RequestKind.ofCode f.kind = some k) :
    flagsFit k f.flags = true ↔ f.flags = 0 ∨ f.kind = 0x11 ∧ f.flags = 1 := by
  have hwrite : k = .data .write ↔ f.kind = 0x11 := by
    rw [← RequestKind.code_of_ofCode hk]
    cases k with
    | data d => cases d <;> simp [RequestKind.code, DataKind.code]
    | claim | cancel | watch | rearm | unwatch | define | drop | linkset | query | linkreset | restart => simp [RequestKind.code]
  rw [flagsFit_iff, hwrite]

end Frames

end Sys2Proof.Machine

namespace Sys2Proof.Proofs

open Sys2Proof Sys2Proof.Machine

/-- Settles O42: the checks in order, each for every kind, and the three rows whose frames are always refused. -/
theorem firstChecksRefuse : Obligations.FirstChecksRefuse := by
  refine ⟨fun f => parseFrame_badKind, fun f hkind hbad => ?_, fun f hlen hfits hflags hpost => ?_,
    fun s n f e hs hlen hf => exec_refused (Instr.frame_ofFrame n f) rfl hs hlen hf,
    fun s n kind h p hs hlen hkind => exec_refused (f := h.frame kind p) rfl rfl hs hlen (parseFrame_badKind hkind),
    fun s n h t c v1 v0 hs hlen hc => ?_, fun s n h c a hs hlen hc => ?_⟩
  · obtain ⟨k, hk⟩ := exists_requestKind hkind
    exact parseFrame_badLen hk hbad
  · obtain ⟨k, hk⟩ := exists_requestKind (mem_requestCodes_of_lengthAllowed hfits)
    by_cases hout : fieldsOut k f.payload
    · exact parseFrame_fieldsOut hk hlen hfits hout
    · obtain ⟨r, hr⟩ := parseFrame_fieldsIn hk hlen hfits hout
      rw [hr, if_neg fun hfit => ((flagsFit_code hk).mp hfit).elim hflags hpost]
  · refine exec_refused (f := h.frame 0x52 [t, c, v1, v0]) rfl rfl hs (show 4 ≤ 260 by omega) ?_
    refine parseFrame_fieldsOut (k := .linkset) rfl ?_ ?_ (.inr (.inl hc))
    · show h.length.toNat = 4
      rw [hlen]; rfl
    · exact (lengthFits_iff .linkset 4).mpr rfl
  · refine exec_refused (f := h.frame 0x53 [c, a]) rfl rfl hs (show 2 ≤ 260 by omega) ?_
    refine parseFrame_fieldsOut (k := .query) rfl ?_ ?_ (.inl hc)
    · show h.length.toNat = 2
      rw [hlen]; rfl
    · exact (lengthFits_iff .query 2).mpr rfl

/-- Settles O43: the fields of each kind, read at their places in the payload, decide whether the frame has a request. -/
theorem fieldsOutOfRangeAreBadArg : Obligations.FieldsOutOfRangeAreBadArg := by
  intro f hlen hfits hflags field value outOfRange
  obtain ⟨k, hk⟩ := exists_requestKind (mem_requestCodes_of_lengthAllowed hfits)
  have hout : outOfRange ↔ fieldsOut k f.payload := by
    have hkind := RequestKind.code_of_ofCode hk
    have hfield (i : Nat) : fieldAt f.payload i = field i := rfl
    simp only [outOfRange, ← hkind]
    cases k with
    | data d => cases d <;> simp [RequestKind.code, DataKind.code, fieldsOut, hfield]
    | claim | cancel | watch | rearm | unwatch | define | drop | linkset | query | linkreset | restart =>
      simp [RequestKind.code, fieldsOut, hfield, value]
  refine ⟨fun h => parseFrame_fieldsOut hk hlen hfits (hout.mp h), fun h => ?_⟩
  obtain ⟨r, hr⟩ := parseFrame_fieldsIn hk hlen hfits fun hbad => h (hout.mpr hbad)
  exact ⟨r, hr.trans (if_pos ((flagsFit_code hk).mpr hflags))⟩

end Sys2Proof.Proofs
end

section
/-! PROOFS. What taking a request leaves unchanged: Inbound Buffers, the states of links that it does not reset, STOPPING slots
(R147, R158, R184), and, for a link without admin, everything of the other links (R44, R46, R138, R143, R179, R184, R187). -/

namespace Sys2Proof.Machine

variable {s t u : State} {n : LinkId} {tag : Tag}

theorem State.ownedWatch_eq_some {id : WatchId} {w : Watch} : s.ownedWatch n id = some w ↔ s.watch id = some w ∧ w.owner = n := by
  simp [State.ownedWatch, Option.filter_eq_some_iff]

theorem State.freeWatch_some {id : WatchId} (h : s.freeWatch = some id) : s.watch id = none := by
  have hfree : (s.watch id).isNone = true := List.find?_some (p := fun id => (s.watch id).isNone) h
  exact Option.isNone_iff_eq_none.mp hfree

/-! ### Requests that reset no link -/

/-- No Inbound Buffer, no link's state, no STOPPING slot and not the port have changed. -/
structure State.TakesOn (s u : State) : Prop where
  inbox : ∀ m, (u.link m).inbox = (s.link m).inbox
  status : ∀ m, (u.link m).status = (s.link m).status
  stopping : ∀ i sl, s.slot i = some sl → sl.state = .stopping → u.slot i = some sl
  port : u.port = s.port

namespace State.TakesOn

theorem refl (s : State) : s.TakesOn s := ⟨fun _ => rfl, fun _ => rfl, fun _ _ h _ => h, rfl⟩

theorem trans (h : s.TakesOn t) (h' : t.TakesOn u) : s.TakesOn u :=
  ⟨fun m => (h'.inbox m).trans (h.inbox m), fun m => (h'.status m).trans (h.status m),
    fun i sl hsl hst => h'.stopping i sl (h.stopping i sl hsl hst) hst, h'.port.trans h.port⟩

/-- A change of one link that keeps its buffer, its state and its STOPPING slots. -/
theorem updLink {f : Link → Link} (hinbox : (f (s.link n)).inbox = (s.link n).inbox)
    (hstatus : (f (s.link n)).status = (s.link n).status)
    (hstop : ∀ k sl, s.slot ⟨n, k⟩ = some sl → sl.state = .stopping → (f (s.link n)).slot k = some sl) :
    s.TakesOn (s.updLink n f) where
  inbox m := by
    rw [State.link_updLink]
    split
    · rename_i hm
      rw [← hm]
      exact hinbox
    · rfl
  status m := by
    rw [State.link_updLink]
    split
    · rename_i hm
      rw [← hm]
      exact hstatus
    · rfl
  stopping i sl hsl hst := by
    rw [State.slot, State.link_updLink]
    split
    · rename_i hm
      subst hm
      exact hstop i.idx sl hsl hst
    · exact hsl
  port := rfl

theorem placeReply (n : LinkId) (x : Reply) : s.TakesOn (s.placeReply n x) := updLink rfl rfl fun _ _ h _ => h

/-- A slot that is not STOPPING is given another record, or freed. -/
theorem setSlot {k : SlotIdx} {sl : Slot} {v : Option Slot} {f : Link → Link} (hslot : s.slot ⟨n, k⟩ = some sl)
    (hnot : sl.state ≠ .stopping) (hinbox : (f (s.link n)).inbox = (s.link n).inbox)
    (hstatus : (f (s.link n)).status = (s.link n).status)
    (hf : ∀ j, (f (s.link n)).slot j = if k = j then v else (s.link n).slot j) : s.TakesOn (s.updLink n f) := by
  refine updLink hinbox hstatus fun j sl' hj hst => ?_
  rw [hf, if_neg]
  · exact hj
  · rintro rfl
    obtain rfl := Option.some.inj (hslot.symm.trans hj)
    exact hnot hst

/-- Where only what the records do not speak of changes. -/
theorem of_agrees (h : s.Agrees t) (hinbox : ∀ m, (t.link m).inbox = (s.link m).inbox) : s.TakesOn t :=
  ⟨hinbox, h.status, fun i _ hsl _ => (h.slot i).trans hsl, h.port⟩

theorem handleOutcome {k : SlotIdx} {sl : Slot} (o : Outcome) (hslot : s.slot ⟨n, k⟩ = some sl) (hnot : sl.state ≠ .stopping) :
    s.TakesOn (s.handleOutcome ⟨n, k⟩ o) := by
  simp only [State.handleOutcome, hslot]
  split
  · exact setSlot hslot hnot rfl rfl fun j => Link.slot_answerOutcome _ _ _ _ _
  · refine setSlot hslot hnot ?_ ?_ fun j => Link.slot_holdOutcome _ _ _ _ _
    · unfold Link.holdOutcome
      split
      · exact (Link.settlesTo_queueNotice _ _).inbox_eq
      · rfl
    · unfold Link.holdOutcome
      split
      · exact (Link.agrees_queueNotice _ _).1
      · rfl
  · exact setSlot hslot hnot rfl rfl fun j => Link.slot_setSlot _ _ _ _

theorem takeData (r : DataRequest) : s.TakesOn (s.takeData n tag r) := by
  rcases State.takeData_cases n tag r with ⟨e, h⟩ | ⟨k, job, -, -, hfree, -, h⟩
  · rw [h]
    exact placeReply n _
  · have hnone := State.lowestFree_some hfree
    rw [h]
    refine ⟨fun m => ?_, fun m => State.status_admission k tag r job m, fun i sl hsl _ => ?_, (State.admission_rest k tag r job).1⟩
    · rw [State.link_admission]
      split
      · split <;> rfl
      · rfl
    · rw [State.slot_admitted, if_neg]
      · exact hsl
      · rintro rfl
        rw [hnone] at hsl
        cases hsl

theorem takeClaim : s.TakesOn (s.takeClaim n tag) := by
  unfold State.takeClaim
  split
  · exact placeReply n _
  · rename_i k sl hfound
    split
    · rename_i hheld _
      exact setSlot (State.slotWithTag_some hfound).1 (by rw [hheld]; simp) rfl rfl fun j => Link.slot_setSlot _ _ _ _
    · exact placeReply n _

theorem cancelTarget {k : SlotIdx} {sl : Slot} (hslot : s.slot ⟨n, k⟩ = some sl) : s.TakesOn (s.cancelTarget ⟨n, k⟩ sl) := by
  cases hst : sl.state with
  | waiting | queued | suspended =>
    simp only [State.cancelTarget, hst]
    exact handleOutcome _ hslot (by rw [hst]; simp)
  | running | held =>
    simp only [State.cancelTarget, hst]
    exact setSlot hslot (by rw [hst]; simp) rfl rfl fun j => Link.slot_setSlot _ _ _ _
  | stopping =>
    simp only [State.cancelTarget, hst]
    exact refl s

theorem takeCancel : s.TakesOn (s.takeCancel n tag) := by
  unfold State.takeCancel
  split
  · exact placeReply n _
  · rename_i k sl hfound
    exact (cancelTarget (State.slotWithTag_some hfound).1).trans (placeReply n _)

theorem setWatch (id : WatchId) (w : Option Watch) : s.TakesOn (s.setWatch id w) :=
  of_agrees (State.agrees_setWatch id w) fun _ => rfl

theorem setSegment (id : SegmentId) (g : Option Segment) : s.TakesOn (s.setSegment id g) :=
  of_agrees (State.agrees_setSegment id g) fun _ => rfl

theorem dropWatchesOn (seg : SegmentId) : s.TakesOn (s.dropWatchesOn seg) := by
  refine of_agrees (State.agrees_dropWatchesOn seg) fun m => ?_
  have fold : ∀ (ms : List Notice) (l : Link), (ms.foldl Link.queueNotice l).inbox = l.inbox := by
    intro ms
    induction ms with
    | nil => exact fun _ => rfl
    | cons x ms ih => exact fun l => (ih _).trans (Link.settlesTo_queueNotice l x).inbox_eq
  obtain ⟨-, hlink, -⟩ := (actsOnWatches_dropWatchOn seg).all s
  exact (congrArg Link.inbox (hlink m)).trans (fold _ _)

theorem takeDefine (id : SegmentId) (base len : Nat) (rights : Vector Right 4) :
    s.TakesOn (s.takeDefine n tag id base len rights) := by
  unfold State.takeDefine
  split
  · exact placeReply n _
  · split
    · exact placeReply n _
    · split
      · exact placeReply n _
      · refine TakesOn.trans ?_ (placeReply n _)
        refine TakesOn.trans ?_ (setSegment _ _)
        split
        · exact dropWatchesOn id
        · exact refl s

theorem takeDrop (id : SegmentId) : s.TakesOn (s.takeDrop n tag id) := by
  unfold State.takeDrop
  split
  · exact placeReply n _
  · split
    · exact placeReply n _
    · split
      · exact placeReply n _
      · exact ((dropWatchesOn id).trans (setSegment _ _)).trans (placeReply n _)

theorem takeLinkset (target : LinkId) (p : Parameter) : s.TakesOn (s.takeLinkset n tag target p) := by
  unfold State.takeLinkset
  split
  · exact placeReply n _
  · exact (updLink (Link.inbox_setParameter _ p) (Link.agrees_setParameter _ p).1
      fun k sl h _ => (Link.slot_setParameter _ p k).trans h).trans (placeReply n _)

/-- Every request but the two resets. -/
theorem takeRequest {r : Request} (hlinkreset : ∀ t, r ≠ .linkreset t) (hrestart : r ≠ .restart) :
    s.TakesOn (s.takeRequest n tag r) := by
  cases r with
  | data r => exact takeData r
  | claim => exact takeClaim
  | cancel => exact takeCancel
  | watch seg off c mode self =>
    show s.TakesOn (s.takeWatch n tag seg off c mode self)
    unfold State.takeWatch
    split
    · exact placeReply n _
    · split
      · exact placeReply n _
      · exact (setWatch _ _).trans (placeReply n _)
  | rearm id =>
    show s.TakesOn (s.takeRearm n tag id)
    unfold State.takeRearm
    split
    · exact placeReply n _
    · split
      · exact (setWatch _ _).trans (placeReply n _)
      · exact placeReply n _
  | unwatch id =>
    show s.TakesOn (s.takeUnwatch n tag id)
    unfold State.takeUnwatch
    split
    · exact placeReply n _
    · exact (setWatch _ _).trans (placeReply n _)
  | define id base len rights => exact takeDefine id base len rights
  | drop id => exact takeDrop id
  | linkset target p => exact takeLinkset target p
  | query q =>
    cases q with
    | link m =>
      simp only [State.takeRequest, State.takeQuery]
      split <;> exact placeReply n _
    | part | slots | segment id | watches => exact placeReply n _
  | linkreset t => exact absurd rfl (hlinkreset t)
  | restart => exact absurd rfl hrestart

end State.TakesOn

/-! ### The resets -/

theorem resetSlot_of_stopping {inProgress : Bool} {sl : Slot} (h : sl.state = .stopping) :
    resetSlot inProgress (some sl) = some sl := by
  simp only [resetSlot, h]

theorem State.inbox_awaitReset (n t m : LinkId) : ((s.awaitReset n t).link m).inbox = (s.link m).inbox := by
  unfold State.awaitReset
  split
  · rfl
  · rw [State.link_updLink]
    split <;> rfl

theorem State.port_awaitReset (n t : LinkId) : (s.awaitReset n t).port = s.port := by
  unfold State.awaitReset
  split <;> rfl

theorem State.status_awaitReset_eq (n t m : LinkId) : ((s.awaitReset n t).link m).status = (s.link m).status ∨
    m = n ∧ ((s.awaitReset n t).link m).status = .awaiting t := by
  unfold State.awaitReset
  split
  · exact .inl rfl
  · rw [State.link_updLink]
    split
    · rename_i hm
      exact .inr ⟨hm.symm, rfl⟩
    · exact .inl rfl

section ResetLinks

variable {targets : LinkId → Bool} {cause : ResetCause}

theorem State.inbox_resetLinks (m : LinkId) : ((s.resetLinks targets cause).link m).inbox = (s.link m).inbox := by
  rw [State.link_resetLinks]
  split <;> rfl

theorem State.status_resetLinks (m : LinkId) : ((s.resetLinks targets cause).link m).status =
    if targets m then .resetting cause else (s.link m).status := by
  rw [State.link_resetLinks]
  split <;> rfl

theorem State.stopping_resetLinks {i : SlotId} {sl : Slot} (hsl : s.slot i = some sl) (hst : sl.state = .stopping) :
    (s.resetLinks targets cause).slot i = some sl := by
  rw [State.slot_resetLinks, hsl]
  split
  · exact resetSlot_of_stopping hst
  · rfl

theorem State.port_resetLinks : (s.resetLinks targets cause).port = s.port.reset targets := rfl

theorem Port.reset_eq_clear {p : Port} (h : p.reset targets = .clear) : p = .clear := by
  unfold Port.reset at h
  split at h
  · split at h <;> cases h
  · exact h

end ResetLinks

/-! ### Any request -/

/-- Taking a request moves no frame of an Inbound Buffer. -/
theorem State.inbox_takeRequest (r : Request) (m : LinkId) : ((s.takeRequest n tag r).link m).inbox = (s.link m).inbox := by
  by_cases hlink : ∃ t, r = .linkreset t
  · obtain ⟨t, rfl⟩ := hlink
    simp only [State.takeRequest, State.takeLinkreset]
    split
    · exact (State.TakesOn.placeReply n _).inbox m
    · split
      · exact (State.TakesOn.placeReply n _).inbox m
      · exact (State.inbox_resetLinks m).trans (State.inbox_awaitReset n t m)
  · by_cases hrestart : r = .restart
    · subst hrestart
      simp only [State.takeRequest, State.takeRestart]
      split
      · exact (State.TakesOn.placeReply n _).inbox m
      · exact State.inbox_resetLinks m
    · exact (State.TakesOn.takeRequest (fun t h => hlink ⟨t, h⟩) hrestart).inbox m

/-- A STOPPING slot keeps its record whatever request is taken (R22, R30). -/
theorem State.stopping_takeRequest (r : Request) {i : SlotId} {sl : Slot} (hsl : s.slot i = some sl) (hst : sl.state = .stopping) :
    (s.takeRequest n tag r).slot i = some sl := by
  by_cases hlink : ∃ t, r = .linkreset t
  · obtain ⟨t, rfl⟩ := hlink
    simp only [State.takeRequest, State.takeLinkreset]
    split
    · exact (State.TakesOn.placeReply n _).stopping i sl hsl hst
    · split
      · exact (State.TakesOn.placeReply n _).stopping i sl hsl hst
      · exact State.stopping_resetLinks ((State.slot_awaitReset n t i).trans hsl) hst
  · by_cases hrestart : r = .restart
    · subst hrestart
      simp only [State.takeRequest, State.takeRestart]
      split
      · exact (State.TakesOn.placeReply n _).stopping i sl hsl hst
      · exact State.stopping_resetLinks hsl hst
    · exact (State.TakesOn.takeRequest (fun t h => hlink ⟨t, h⟩) hrestart).stopping i sl hsl hst

/-- No request begins the start-up clear. -/
theorem State.port_takeRequest (r : Request) (h : (s.takeRequest n tag r).port = .clear) : s.port = .clear := by
  by_cases hlink : ∃ t, r = .linkreset t
  · obtain ⟨t, rfl⟩ := hlink
    simp only [State.takeRequest, State.takeLinkreset] at h
    split at h
    · exact h
    · split at h
      · exact h
      · rw [State.port_resetLinks] at h
        rw [← State.port_awaitReset n t]
        exact Port.reset_eq_clear h
  · by_cases hrestart : r = .restart
    · subst hrestart
      simp only [State.takeRequest, State.takeRestart] at h
      split at h
      · exact h
      · rw [State.port_resetLinks] at h
        exact Port.reset_eq_clear h
    · rw [← (State.TakesOn.takeRequest (s := s) (n := n) (tag := tag) (fun t h => hlink ⟨t, h⟩) hrestart).port]
      exact h

/-- Short of a RESTART, a request leaves a link's state, makes the link AWAITING, or resets the link it names. -/
theorem State.status_takeRequest {r : Request} (hrestart : r ≠ .restart) (m : LinkId) :
    ((s.takeRequest n tag r).link m).status = (s.link m).status ∨
      (∃ t, ((s.takeRequest n tag r).link m).status = .awaiting t) ∨
      r = .linkreset m ∧ ((s.takeRequest n tag r).link m).status = .resetting (.linkreset n tag) := by
  by_cases hlink : ∃ t, r = .linkreset t
  · obtain ⟨t, rfl⟩ := hlink
    simp only [State.takeRequest, State.takeLinkreset]
    split
    · exact .inl ((State.TakesOn.placeReply n _).status m)
    · split
      · exact .inl ((State.TakesOn.placeReply n _).status m)
      · rw [State.status_resetLinks]
        by_cases hm : m = t
        · subst hm
          exact .inr (.inr ⟨rfl, if_pos (decide_eq_true rfl)⟩)
        · rw [if_neg (by simpa using hm)]
          rcases State.status_awaitReset_eq (s := s) n t m with h | ⟨-, h⟩
          · exact .inl h
          · exact .inr (.inl ⟨t, h⟩)
  · exact .inl ((State.TakesOn.takeRequest (fun t h => hlink ⟨t, h⟩) hrestart).status m)

/-! ### Requests of a link without admin -/

/-- Of the other links, the segments and the watches of other owners, nothing has changed. -/
structure State.Within (n : LinkId) (s u : State) : Prop where
  link : ∀ m, m ≠ n → u.link m = s.link m
  segments : u.segments = s.segments
  watches : ∀ id, u.watch id = s.watch id ∨
    (∀ w, s.watch id = some w → w.owner = n) ∧ ∀ w, u.watch id = some w → w.owner = n

namespace State.Within

theorem refl (s : State) : State.Within n s s := ⟨fun _ _ => rfl, rfl, fun _ => .inl rfl⟩

theorem trans (h : State.Within n s t) (h' : State.Within n t u) : State.Within n s u := by
  refine ⟨fun m hm => (h'.link m hm).trans (h.link m hm), h'.segments.trans h.segments, fun id => ?_⟩
  rcases h.watches id with h1 | ⟨hs, ht⟩
  · rcases h'.watches id with h2 | ⟨ht, hu⟩
    · exact .inl (h2.trans h1)
    · exact .inr ⟨fun w hw => ht w (h1.trans hw), hu⟩
  · rcases h'.watches id with h2 | ⟨-, hu⟩
    · exact .inr ⟨hs, fun w hw => ht w (h2.symm.trans hw)⟩
    · exact .inr ⟨hs, hu⟩

theorem updLink (f : Link → Link) : State.Within n s (s.updLink n f) := by
  refine ⟨fun m hm => ?_, rfl, fun _ => .inl rfl⟩
  rw [State.link_updLink, if_neg fun h => hm h.symm]

theorem placeReply (x : Reply) : State.Within n s (s.placeReply n x) := updLink _

theorem setWatch {id : WatchId} {v : Option Watch} (hs : ∀ w, s.watch id = some w → w.owner = n)
    (hv : ∀ w, v = some w → w.owner = n) : State.Within n s (s.setWatch id v) := by
  refine ⟨fun _ _ => rfl, rfl, fun j => ?_⟩
  rw [State.watch_setWatch]
  split
  · rename_i hj
    subst hj
    exact .inr ⟨hs, hv⟩
  · exact .inl rfl

theorem of_eq (hlink : ∀ m, m ≠ n → u.link m = s.link m) (hsegments : u.segments = s.segments) (hwatches : u.watches = s.watches) :
    State.Within n s u :=
  ⟨hlink, hsegments, fun id => .inl (by simp only [State.watch, hwatches])⟩

theorem takeData (r : DataRequest) : State.Within n s (s.takeData n tag r) := by
  rcases State.takeData_cases n tag r with ⟨e, h⟩ | ⟨k, job, -, -, -, -, h⟩
  · rw [h]
    exact placeReply _
  · rw [h]
    refine of_eq (fun m hm => ?_) ?_ ?_
    · rw [State.link_admission, if_neg fun h => hm h.symm]
    · unfold State.admission
      split <;> rfl
    · unfold State.admission
      split <;> rfl

theorem takeClaim : State.Within n s (s.takeClaim n tag) := by
  unfold State.takeClaim
  split
  · exact placeReply _
  · split
    · exact updLink _
    · exact placeReply _

theorem handleOutcome (k : SlotIdx) (o : Outcome) : State.Within n s (s.handleOutcome ⟨n, k⟩ o) := by
  unfold State.handleOutcome
  split
  · exact refl s
  · split <;> exact updLink _

theorem takeCancel : State.Within n s (s.takeCancel n tag) := by
  unfold State.takeCancel
  split
  · exact placeReply _
  · refine trans ?_ (placeReply _)
    unfold State.cancelTarget
    split
    · exact handleOutcome _ _
    · exact handleOutcome _ _
    · exact handleOutcome _ _
    · exact updLink _
    · exact updLink _
    · exact refl s

theorem resetLinks (cause : ResetCause) : State.Within n s (s.resetLinks (fun m => decide (m = n)) cause) := by
  refine ⟨fun m hm => ?_, ?_, fun id => ?_⟩
  · rw [State.link_resetLinks, if_neg (by simpa using hm)]
  · unfold State.resetLinks State.dropWatchesOf
    rfl
  · rw [State.watch_resetLinks]
    cases hw : s.watch id with
    | none => exact .inl rfl
    | some w =>
      rw [Option.filter_some]
      by_cases howner : w.owner = n
      · refine .inr ⟨fun w' hw' => ?_, fun w' hw' => ?_⟩
        · cases hw'
          exact howner
        · rw [if_neg (by simpa using howner)] at hw'
          cases hw'
      · exact .inl (if_pos (by simpa using howner))

theorem takeRequest {r : Request} (hadmin : (s.link n).admin = false) : State.Within n s (s.takeRequest n tag r) := by
  cases r with
  | data r => exact takeData r
  | claim => exact takeClaim
  | cancel => exact takeCancel
  | watch seg off c mode self =>
    show State.Within n s (s.takeWatch n tag seg off c mode self)
    unfold State.takeWatch
    split
    · exact placeReply _
    · rename_i id hfree
      split
      · exact placeReply _
      · refine trans (setWatch (fun w hw => ?_) fun w hw => ?_) (placeReply _)
        · rw [State.freeWatch_some hfree] at hw
          cases hw
        · cases hw
          rfl
  | rearm id =>
    show State.Within n s (s.takeRearm n tag id)
    unfold State.takeRearm
    split
    · exact placeReply _
    · rename_i w hw
      obtain ⟨hwatch, howner⟩ := State.ownedWatch_eq_some.mp hw
      split
      · refine trans (setWatch (fun w' hw' => ?_) fun w' hw' => ?_) (placeReply _)
        · rw [Option.some.inj (hw'.symm.trans hwatch)]
          exact howner
        · cases hw'
          exact howner
      · exact placeReply _
  | unwatch id =>
    show State.Within n s (s.takeUnwatch n tag id)
    unfold State.takeUnwatch
    split
    · exact placeReply _
    · rename_i w hw
      obtain ⟨hwatch, howner⟩ := State.ownedWatch_eq_some.mp hw
      refine trans (setWatch (fun w' hw' => ?_) fun w' hw' => ?_) (placeReply _)
      · rw [Option.some.inj (hw'.symm.trans hwatch)]
        exact howner
      · cases hw'
  | define id base len rights =>
    show State.Within n s (s.takeDefine n tag id base len rights)
    rw [State.takeDefine, hadmin]
    exact placeReply _
  | drop id =>
    show State.Within n s (s.takeDrop n tag id)
    rw [State.takeDrop, hadmin]
    exact placeReply _
  | linkset target p =>
    show State.Within n s (s.takeLinkset n tag target p)
    unfold State.takeLinkset
    split
    · exact placeReply _
    · rename_i hallowed
      have htarget : target = n := by
        by_contra h
        exact hallowed (by simp [hadmin, h])
      subst htarget
      exact (updLink _).trans (placeReply _)
  | query q =>
    cases q with
    | link m =>
      simp only [State.takeRequest, State.takeQuery]
      split <;> exact placeReply _
    | part | slots | segment id | watches => exact placeReply _
  | linkreset t =>
    show State.Within n s (s.takeLinkreset n tag t)
    unfold State.takeLinkreset
    split
    · exact placeReply _
    · rename_i hallowed
      have htarget : t = n := by
        by_contra h
        exact hallowed ⟨h, hadmin⟩
      subst htarget
      split
      · exact placeReply _
      · rw [State.awaitReset, if_pos rfl]
        exact resetLinks _
  | restart =>
    show State.Within n s (s.takeRestart n tag)
    rw [State.takeRestart, if_pos hadmin]
    exact placeReply _

theorem takeFrame (hadmin : (s.link n).admin = false) (f : Frame) : State.Within n s (s.takeFrame n f) := by
  unfold State.takeFrame
  split
  · exact placeReply _
  · exact takeRequest hadmin

end State.Within

end Sys2Proof.Machine
end

section
/-! PROOFS. One frame taken and what follows from it: the Inbound Buffers (R147, R166, R167), and, for a link without admin, the
other links (R42, R44, R46, R138, R143, R179, R184, R187). -/

namespace Sys2Proof.Machine

variable {s t u : State} {n : LinkId} {f : Frame}

/-! ### Resets that complete -/

/-- What the completion of each LINKRESET keeps, the completion of all keeps. -/
theorem State.foldl_finishLinkreset {P : State → Prop} (hstep : ∀ s t, P s → P (s.finishLinkreset t)) (h : P s) :
    P (linkIds.foldl State.finishLinkreset s) := by
  rw [foldl_linkIds]
  exact hstep _ _ (hstep _ _ (hstep _ _ (hstep _ _ h)))

theorem State.link_completeRestart (r n : LinkId) :
    (s.completeRestart r).link n = (s.link n).reopen.queueNotice (.restarted .restart r) := by
  unfold State.completeRestart
  exact State.link_mapLinks s n fun _ l => l.reopen.queueNotice (.restarted .restart r)

/-- After an event that keeps the STOPPING slots and begins no RESTART, in a state in which no reset could complete, LINKRESETs
alone can complete (R185, R188). -/
theorem State.completeResets_of_quiet (hquiet : s.resetsQuiet = true)
    (hstop : ∀ i sl, s.slot i = some sl → sl.state = .stopping → u.slot i = some sl)
    (hnew : ∀ m r, (u.link m).status = .resetting (.restart r) → (s.link m).status = .resetting (.restart r)) :
    u.completeResets = u ∨ u.restartInProgress = none ∧ u.completeResets = linkIds.foldl State.finishLinkreset u := by
  unfold State.completeResets
  cases hu : u.restartInProgress with
  | none => exact .inr ⟨rfl, rfl⟩
  | some r =>
    obtain ⟨m, hm⟩ := State.restartInProgress_some hu
    have hs : s.restartInProgress.isSome = true := by
      rw [Option.isSome_iff_ne_none]
      exact fun hnone => State.restartInProgress_none.mp hnone m r (hnew m r hm)
    rw [State.resetsQuiet, if_pos hs] at hquiet
    obtain ⟨i, sl, hsl, hst⟩ := State.stopping_iff.mp hquiet
    exact .inl (if_pos (State.stopping_iff.mpr ⟨i, sl, hstop i sl hsl hst, hst⟩))

/-! ### Inbound Buffers -/

theorem State.inbox_finishLinkreset (t n : LinkId) :
    ((s.finishLinkreset t).link n).inbox = (s.link n).inbox ∨ ((s.finishLinkreset t).link n).inbox = [] := by
  rcases State.finishLinkreset_cases (s := s) t with he | ⟨r, tag, -, -, he⟩
  · exact .inl (by rw [he])
  · rw [he, State.link_completeLinkreset]
    split_ifs with h1 h2 h3
    · exact .inr (by simp [Link.reopen, Link.placeReply])
    · exact .inr (by simp [Link.reopen])
    · exact .inl (by rw [h3.1]; rfl)
    · exact .inl rfl

/-- A reset that completes empties the buffer of its own link alone (R185). -/
theorem State.inbox_finishLinkreset_of_not (t : LinkId) (h : (s.link n).isResetting = false) :
    ((s.finishLinkreset t).link n).inbox = (s.link n).inbox ∧ ((s.finishLinkreset t).link n).isResetting = false := by
  rcases State.finishLinkreset_cases (s := s) t with he | ⟨r, tag, hreset, -, he⟩
  · rw [he]
    exact ⟨rfl, h⟩
  · have hne : n ≠ t := by
      rintro rfl
      rw [Link.isResetting_iff.mpr ⟨_, hreset⟩] at h
      cases h
    rw [he, State.link_completeLinkreset, if_neg hne]
    split_ifs with h3
    · rw [h3.1]
      exact ⟨rfl, rfl⟩
    · exact ⟨rfl, h⟩

theorem State.inbox_completeResets (n : LinkId) :
    (s.completeResets.link n).inbox = (s.link n).inbox ∨ (s.completeResets.link n).inbox = [] := by
  unfold State.completeResets
  split
  · split
    · exact .inl rfl
    · exact .inr (by rw [State.link_completeRestart]; simp [Link.reopen])
  · refine State.foldl_finishLinkreset (P := fun u => (u.link n).inbox = (s.link n).inbox ∨ (u.link n).inbox = [])
      (fun u t hu => ?_) (.inl rfl)
    rcases State.inbox_finishLinkreset (s := u) t n with h | h
    · rw [h]
      exact hu
    · exact .inr h

theorem State.inbox_react (n : LinkId) : (s.react.link n).inbox = (s.completeResets.link n).inbox :=
  (State.sameInboxes_portChoose n).trans (State.sameInboxes_dispatch n)

theorem State.inbox_takeFrame (f : Frame) (m : LinkId) : ((s.takeFrame n f).link m).inbox = (s.link m).inbox := by
  unfold State.takeFrame
  split
  · exact State.sameInboxes_placeReply n _ m
  · exact State.inbox_takeRequest _ m

/-! ### A frame taken -/

theorem State.stopping_takeFrame (f : Frame) {i : SlotId} {sl : Slot} (hsl : s.slot i = some sl) (hst : sl.state = .stopping) :
    (s.takeFrame n f).slot i = some sl := by
  unfold State.takeFrame
  split
  · exact (State.TakesOn.placeReply n _).stopping i sl hsl hst
  · exact State.stopping_takeRequest _ hsl hst

theorem State.port_takeFrame (h : (s.takeFrame n f).port = .clear) : s.port = .clear := by
  unfold State.takeFrame at h
  split at h
  · exact h
  · exact State.port_takeRequest _ h

theorem State.status_takeFrame (hrestart : parseFrame f ≠ .ok .restart) (m : LinkId) :
    ((s.takeFrame n f).link m).status = (s.link m).status ∨
      (∃ t, ((s.takeFrame n f).link m).status = .awaiting t) ∨
      parseFrame f = .ok (.linkreset m) ∧ ((s.takeFrame n f).link m).status = .resetting (.linkreset n f.tag) := by
  unfold State.takeFrame
  split
  · exact .inl ((State.TakesOn.placeReply n _).status m)
  · rename_i r hr
    have hr' : r ≠ .restart := fun h => hrestart (hr.trans (by rw [h]))
    rcases State.status_takeRequest (s := s) (n := n) (tag := f.tag) hr' m with h | h | ⟨rfl, h⟩
    · exact .inl h
    · exact .inr (.inl h)
    · exact .inr (.inr ⟨hr, h⟩)

theorem State.port_react (h : s.react.port = .clear) : s.port = .clear := by
  have hchoose {v : State} (h : v.portChoose.port = .clear) : v.port = .clear := by
    rcases v.portChoose_cases with he | ⟨r, -, -, he⟩ | ⟨i, sl, -, -, -, -, he⟩ <;> rw [he] at h
    · exact h
    · cases h
    · cases h
  have hdispatch {v : State} : v.dispatch.port = v.port := by
    rcases v.dispatch_cases with he | ⟨i, sl, -, -, -, -, he⟩
    · rw [he]
    · rw [he]
      rfl
  have hresets : s.completeResets.port = s.port := by
    unfold State.completeResets
    split
    · split <;> rfl
    · exact (State.linksOnly_foldl (fun _ t => State.linksOnly_finishLinkreset t) linkIds s).port_eq
  rw [← hresets, ← hdispatch]
  exact hchoose h

/-- A frame taken on an OPEN link in a state in which no reset could complete: unless it resets the link, the frames behind it in
the Inbound Buffer stay (R147, R184, R187). -/
theorem State.inbox_react_takeFrame (hquiet : s.resetsQuiet = true) (hopen : (s.link n).status = .opened)
    (hrestart : parseFrame f ≠ .ok .restart) (hlinkreset : parseFrame f ≠ .ok (.linkreset n)) :
    ((s.takeFrame n f).react.link n).inbox = (s.link n).inbox := by
  have hstatus := State.status_takeFrame (s := s) (n := n) hrestart
  have hnew (m r : LinkId) (h : ((s.takeFrame n f).link m).status = .resetting (.restart r)) :
      (s.link m).status = .resetting (.restart r) := by
    rcases hstatus m with h' | ⟨t, h'⟩ | ⟨-, h'⟩
    · exact h'.symm.trans h
    · cases h'.symm.trans h
    · cases h'.symm.trans h
  have hnot : ((s.takeFrame n f).link n).isResetting = false := by
    rcases hstatus n with h | ⟨t, h⟩ | ⟨h, -⟩
    · simp only [Link.isResetting, h, hopen]
    · simp only [Link.isResetting, h]
    · exact absurd h hlinkreset
  refine (State.inbox_react n).trans (Eq.trans ?_ (State.inbox_takeFrame (n := n) f n))
  rcases State.completeResets_of_quiet hquiet (fun i sl => State.stopping_takeFrame (n := n) f) hnew with h | ⟨-, h⟩
  · rw [h]
  · rw [h]
    exact (State.foldl_finishLinkreset
      (P := fun u => (u.link n).inbox = ((s.takeFrame n f).link n).inbox ∧ (u.link n).isResetting = false)
      (fun u t ⟨hbox, hu⟩ => ⟨(State.inbox_finishLinkreset_of_not t hu).1.trans hbox, (State.inbox_finishLinkreset_of_not t hu).2⟩)
      ⟨rfl, hnot⟩).1

/-- A link without admin, OPEN, stays OPEN, awaits a reset, or is reset by its own LINKRESET. -/
theorem State.status_takeFrame_self (hadmin : (s.link n).admin = false) (hopen : (s.link n).status = .opened) :
    ((s.takeFrame n f).link n).status = .opened ∨ (∃ t, ((s.takeFrame n f).link n).status = .awaiting t) ∨
      ∃ tag, ((s.takeFrame n f).link n).status = .resetting (.linkreset n tag) := by
  by_cases hrestart : parseFrame f = .ok .restart
  · have hrefused : s.takeFrame n f = s.refuse n f.tag .notAdmin := by
      simp only [State.takeFrame, hrestart, State.takeRequest, State.takeRestart, hadmin, if_true]
    rw [hrefused]
    exact .inl (((State.TakesOn.placeReply n _).status n).trans hopen)
  · rcases State.status_takeFrame (s := s) (n := n) hrestart n with h | h | ⟨-, h⟩
    · exact .inl (h.trans hopen)
    · exact .inr (.inl h)
    · exact .inr (.inr ⟨_, h⟩)

/-! ### The intakes of an event -/

theorem State.intake_takes {g : Frame} {rest : List Frame} (hbox : (s.link n).inbox = g :: rest) (hable : s.intakeAble n = true) :
    s.intake n = ((s.updLink n fun l => { l with inbox := rest }).takeFrame n g).react := by
  simp only [State.intake, hbox, hable, if_true]

theorem State.intake_waits {g : Frame} {rest : List Frame} (hbox : (s.link n).inbox = g :: rest)
    (hable : ¬ s.intakeAble n = true) : s.intake n = s := by
  simp only [State.intake, hbox]
  exact if_neg hable

theorem State.othersEmpty_intake (hm : ∀ m, m ≠ n → (s.link m).inbox = []) (m : LinkId) (hne : m ≠ n) :
    ((s.intake n).link m).inbox = [] := by
  unfold State.intake
  split
  · exact hm m hne
  · split
    · refine State.keepsEmpty_react m (State.keepsEmpty_takeFrame n _ m ?_)
      rw [State.link_updLink_ne _ hne.symm]
      exact hm m hne
    · exact hm m hne

/-- Where one Inbound Buffer alone holds frames, its intake alone acts in an event. -/
theorem State.foldl_intake (hm : ∀ m, m ≠ n → (s.link m).inbox = []) : linkIds.foldl State.intake s = s.intake n := by
  have hidle {u : State} (hu : ∀ m, m ≠ n → (u.link m).inbox = []) (m : LinkId) (hne : m ≠ n) : u.intake m = u :=
    State.intake_empty (hu m hne)
  have hbefore := hidle hm
  have hafter := hidle (State.othersEmpty_intake hm)
  rw [foldl_linkIds]
  match n with
  | 0 => rw [hafter 1 (by decide), hafter 2 (by decide), hafter 3 (by decide)]
  | 1 => rw [hbefore 0 (by decide), hafter 2 (by decide), hafter 3 (by decide)]
  | 2 => rw [hbefore 0 (by decide), hbefore 1 (by decide), hafter 3 (by decide)]
  | 3 => rw [hbefore 0 (by decide), hbefore 1 (by decide), hbefore 2 (by decide)]

theorem State.slot_status_updLink {f : Link → Link} (hslot : ∀ l k, (f l).slot k = l.slot k) (hstatus : ∀ l, (f l).status = l.status) :
    (∀ i, (s.updLink n f).slot i = s.slot i) ∧ ∀ m, ((s.updLink n f).link m).status = (s.link m).status := by
  constructor
  · intro i
    rw [State.slot, State.link_updLink]
    split
    · exact hslot _ _
    · rfl
  · intro m
    rw [State.link_updLink]
    split
    · exact hstatus _
    · rfl

/-- In a state in which nothing else could follow, a frame that has joined one Inbound Buffer sets one take of its intake off. -/
theorem State.settle_joined {box : List Frame} {g : Frame} (hresets : s.resetsQuiet = true) (hengine : s.engineQuiet = true)
    (hport : s.portQuiet = true) (hable : s.intakeAble n = true) (hothers : ∀ m, m ≠ n → (s.link m).inbox = []) :
    (s.updLink n fun l => { l with receiver := .idle, inbox := g :: box }).settle =
      ((s.updLink n fun l => { l with receiver := .idle, inbox := box }).takeFrame n g).react.arbitrate := by
  obtain ⟨hslot, hstatus⟩ := State.slot_status_updLink (s := s) (n := n)
    (f := fun l => { l with receiver := .idle, inbox := g :: box }) (fun _ _ => rfl) fun _ => rfl
  have hreact := State.react_congr hslot hstatus rfl rfl hresets hengine hport
  have hbox : ((s.updLink n fun l => { l with receiver := .idle, inbox := g :: box }).link n).inbox = g :: box := by
    rw [State.link_updLink_self]
  have hable' : (s.updLink n fun l => { l with receiver := .idle, inbox := g :: box }).intakeAble n = true := by
    rw [State.intakeAble_iff] at hable ⊢
    rw [State.link_updLink_self]
    exact hable
  have hothers' (m : LinkId) (hm : m ≠ n) :
      ((s.updLink n fun l => { l with receiver := .idle, inbox := g :: box }).link m).inbox = [] := by
    rw [State.link_updLink_ne _ hm.symm]
    exact hothers m hm
  rw [State.settle, hreact, State.foldl_intake hothers', State.intake_takes hbox hable', State.updLink_updLink]

/-! ### The other links -/

/-- A LINKRESET that a link asked of itself completes without another link's doing. -/
theorem State.link_finishLinkreset_self (howner : ∀ r tag, (s.link n).status = .resetting (.linkreset r tag) → r = n)
    (t : LinkId) (hquiet : t ≠ n → (s.link t).isResetting = true → s.stoppingOn t = true) :
    (∀ m, m ≠ n → (s.finishLinkreset t).link m = s.link m) ∧
      ∀ r tag, ((s.finishLinkreset t).link n).status = .resetting (.linkreset r tag) → r = n := by
  rcases State.finishLinkreset_cases (s := s) t with he | ⟨r, tag, hreset, hstop, he⟩
  · rw [he]
    exact ⟨fun _ _ => rfl, howner⟩
  · have htn : t = n := by
      by_contra hne
      rw [hquiet hne (Link.isResetting_iff.mpr ⟨_, hreset⟩)] at hstop
      cases hstop
    subst htn
    obtain rfl := howner r tag hreset
    have hlink := State.link_completeLinkreset (s := s) r r tag
    rw [he]
    refine ⟨fun m hm => ?_, fun r' tag' h => ?_⟩
    · rw [hlink, if_neg hm, if_neg fun h => hm h.1]
    · rw [hlink, if_pos rfl, if_pos rfl] at h
      simp [Link.reopen, Link.placeReply] at h

/-- Resets of other links that could not complete before still cannot. -/
theorem State.link_completeResets_within (hwithin : ∀ m, m ≠ n → u.link m = s.link m) (hquiet : s.resetsQuiet = true)
    (hopen : (s.link n).status = .opened)
    (hstop : ∀ i sl, s.slot i = some sl → sl.state = .stopping → u.slot i = some sl)
    (howner : (u.link n).status = .opened ∨ (∃ t, (u.link n).status = .awaiting t) ∨
      ∃ tag, (u.link n).status = .resetting (.linkreset n tag)) (m : LinkId) (hm : m ≠ n) :
    u.completeResets.link m = s.link m := by
  have hrestart (r m : LinkId) : (u.link m).status = .resetting (.restart r) ↔ (s.link m).status = .resetting (.restart r) := by
    by_cases hmn : m = n
    · subst hmn
      rcases howner with h | ⟨t, h⟩ | ⟨tag, h⟩ <;> rw [h, hopen] <;> simp
    · rw [hwithin m hmn]
  rcases State.completeResets_of_quiet hquiet hstop fun m r => (hrestart r m).mp with h | ⟨hnone, h⟩
  · rw [h, hwithin m hm]
  · have hs : ¬ s.restartInProgress.isSome = true := by
      rw [Option.not_isSome_iff_eq_none, State.restartInProgress_none]
      exact fun m r hr => State.restartInProgress_none.mp hnone m r ((hrestart r m).mpr hr)
    rw [State.resetsQuiet, if_neg hs, List.all_eq_true] at hquiet
    have hothers {v : State} (hv : ∀ m, m ≠ n → v.link m = s.link m) (t : LinkId) (ht : t ≠ n)
        (hreset : (v.link t).isResetting = true) : v.stoppingOn t = true := by
      have hslots (k : SlotIdx) : v.slot ⟨t, k⟩ = s.slot ⟨t, k⟩ := congrArg (fun l => l.slot k) (hv t ht)
      have hq := hquiet t (mem_linkIds t)
      rw [hv t ht] at hreset
      rw [hreset] at hq
      have hstopping : s.stoppingOn t = true := hq
      rw [State.stoppingOn_iff] at hstopping ⊢
      simpa only [hslots] using hstopping
    rw [h]
    exact (State.foldl_finishLinkreset
      (P := fun v => (∀ m, m ≠ n → v.link m = s.link m) ∧ ∀ r tag, (v.link n).status = .resetting (.linkreset r tag) → r = n)
      (fun v t ⟨hv, hown⟩ => by
        obtain ⟨hlinks, hown'⟩ := State.link_finishLinkreset_self hown t (hothers hv t)
        exact ⟨fun m hm => (hlinks m hm).trans (hv m hm), hown'⟩)
      ⟨hwithin, fun r tag hr => by
        rcases howner with h | ⟨t, h⟩ | ⟨tag', h⟩
        · cases h.symm.trans hr
        · cases h.symm.trans hr
        · cases h.symm.trans hr
          rfl⟩).1 m hm

/-- What dispatch, the port's choice and the arbiters touch of a link. -/
theorem State.link_react_arbitrate (m : LinkId) : s.react.arbitrate.link m = { s.completeResets.link m with
    slots := (s.react.arbitrate.link m).slots, transmitter := (s.react.arbitrate.link m).transmitter
    outLine := (s.react.arbitrate.link m).outLine, streak := (s.react.arbitrate.link m).streak } := by
  have hdispatch (v : State) : v.dispatch.link m = { v.link m with slots := (v.dispatch.link m).slots } := by
    rcases v.dispatch_cases with he | ⟨i, sl, -, -, -, -, he⟩
    · rw [he]
    · have hlink : (v.startOperation i sl).link m = (v.setSlot i (some { sl with state := .running })).link m := rfl
      rw [he, hlink, State.setSlot, State.link_updLink]
      split <;> rfl
  have hchoose (v : State) : v.portChoose.link m = v.link m := by simp only [State.link, State.portChoose_links]
  have harbitrate (l : Link) : l.arbitrate =
      { l with transmitter := l.arbitrate.transmitter, outLine := l.arbitrate.outLine, streak := l.arbitrate.streak } := by
    unfold Link.arbitrate
    split_ifs <;> rfl
  have hreact : s.react.link m = { s.completeResets.link m with slots := (s.react.link m).slots } := by
    unfold State.react
    rw [hchoose]
    exact hdispatch _
  rw [State.link_arbitrate, harbitrate (s.react.link m), hreact]

end Sys2Proof.Machine

namespace Sys2Proof.Proofs

open Sys2Proof Sys2Proof.Machine

/-- Settles O14: of the intakes of an event one alone finds a frame, and a reset alone empties a buffer. -/
theorem intakeTakesTheHeadFrame : Obligations.IntakeTakesTheHeadFrame := by
  refine ⟨fun s n => ?_, fun s n bits f g hresets hengine hport hable hothers hbox hreceiver hbits => ?_⟩
  · intro able
    have hiff : able ↔ s.intakeAble n = true := State.intakeAble_iff.symm
    refine ⟨State.intake_empty, fun f rest hbox => ⟨fun hnot => State.intake_waits hbox fun h => hnot (hiff.mpr h),
      fun e hable herr => ?_, fun r hable hr => ?_⟩⟩
    · rw [State.intake_takes hbox (hiff.mp hable)]
      simp only [State.takeFrame, herr]
      rfl
    · rw [State.intake_takes hbox (hiff.mp hable)]
      simp only [State.takeFrame, hr]
  · obtain ⟨hopen, hplaces, hdirect, hrstn, hclear⟩ := State.intakeAble_iff.mp hable
    have hend : (s.link n).endFrame (receiveBits bits) = { s.link n with receiver := .idle, inbox := [g, f] } := by
      rw [hbits, Link.endFrame_assembling hreceiver, hbox]
      rfl
    have hexec : exec (.frameEnd n bits) s =
        .next (s.updLink n fun l => { l with receiver := .idle, inbox := [g, f] }).settle := by
      show Host.Outcome.next (s.updLink n fun l => l.endFrame (receiveBits bits)).settle = _
      rw [State.updLink_congr (g := fun l => { l with receiver := .idle, inbox := [g, f] }) hend]
    rw [State.settle_joined hresets hengine hport hable hothers] at hexec
    obtain ⟨u, hu⟩ : ∃ u, u = s.updLink n fun l => { l with receiver := .idle, inbox := [f] } := ⟨_, rfl⟩
    rw [← hu] at hexec
    have hubox : (u.link n).inbox = [f] := by rw [hu, State.link_updLink_self]
    obtain ⟨hslot, hstatus⟩ : (∀ i, u.slot i = s.slot i) ∧ ∀ m, (u.link m).status = (s.link m).status := by
      rw [hu]
      exact State.slot_status_updLink (fun _ _ => rfl) fun _ => rfl
    have harbitrate : ((u.takeFrame n g).react.arbitrate.link n).inbox = ((u.takeFrame n g).react.link n).inbox := by
      rw [State.link_arbitrate]
      exact (Link.settlesTo_arbitrate _).inbox_eq
    refine ⟨_, hexec, ?_, fun hrestart hlinkreset => ?_⟩
    · have hone : ((u.takeFrame n g).react.arbitrate.link n).inbox.length < 2 := by
        rw [harbitrate, State.inbox_react]
        rcases State.inbox_completeResets (s := u.takeFrame n g) n with h | h <;> rw [h]
        · rw [State.inbox_takeFrame, hubox]
          exact Nat.one_lt_two
        · exact Nat.two_pos
      have hrstn' : (u.takeFrame n g).react.arbitrate.rstn = true := by
        have htook := ((State.took_takeFrame (s := u) n g).trans State.reacted_react.took).trans State.reacted_arbitrate.took
        rw [htook.rstn_eq, hu]
        exact hrstn
      have hclear' : (u.takeFrame n g).react.arbitrate.port ≠ .clear := by
        intro h
        have hport' := State.port_takeFrame (State.port_react h)
        rw [hu] at hport'
        exact hclear hport'
      rw [State.partHold, State.clearing, decide_eq_false (by omega), decide_eq_false hclear', hrstn']
      rfl
    · rw [harbitrate, State.inbox_react_takeFrame ((State.resetsQuiet_congr hslot hstatus).trans hresets)
        ((hstatus n).trans hopen) hrestart hlinkreset, hubox]

/-- Settles O60: taking the frame acts within its link, no reset of another link completes, and dispatch, the port's choice and the
arbiters touch what the statement leaves out. -/
theorem linksWithoutAdminAreContained : Obligations.LinksWithoutAdminAreContained := by
  intro s t n f hserves hadmin hfits ht
  have hexec := exec_serves (Instr.frame_ofFrame n f) hserves hfits
  obtain ⟨-, hable, hresets, -, -, hempty⟩ := State.serves_iff.mp hserves
  obtain ⟨hopen, -⟩ := State.intakeAble_iff.mp hable
  obtain ⟨u, hu⟩ : ∃ u, u = s.takeFrame n f := ⟨_, rfl⟩
  have hwithin : State.Within n s u := by
    rw [hu]
    exact State.Within.takeFrame hadmin f
  have huempty (m : LinkId) : (u.link m).inbox = [] := by
    rw [hu]
    exact State.keepsEmpty_takeFrame n f m (hempty m)
  have htu : t = u.settle := by
    rw [hexec, ← hu] at ht
    exact (Host.Outcome.next.inj ht).symm
  have hreacted : u.reacted t := by
    rw [htu]
    exact State.reacted_settle huempty
  have htook : s.took t := by
    have htakes := State.took_takeFrame (s := s) n f
    rw [← hu] at htakes
    exact htakes.trans hreacted.took
  have howner : (u.link n).status = .opened ∨ (∃ t, (u.link n).status = .awaiting t) ∨
      ∃ tag, (u.link n).status = .resetting (.linkreset n tag) := by
    rw [hu]
    exact State.status_takeFrame_self hadmin hopen
  have hlink (m : LinkId) (hm : m ≠ n) : u.completeResets.link m = s.link m :=
    State.link_completeResets_within hwithin.link hresets hopen
      (fun i sl hsl hst => by rw [hu]; exact State.stopping_takeFrame f hsl hst) howner m hm
  refine ⟨htook.store_eq, ?_, ?_, fun id w hw hne => ?_, fun id hnone w hw => ?_, fun m hm => ?_, fun m k hm => ?_⟩
  · exact hreacted.segments_eq.trans hwithin.segments
  · exact htook.faults_eq
  · rw [hreacted.watch_eq]
    rcases hwithin.watches id with h | ⟨h, -⟩
    · rw [h, hw]
    · exact absurd (h w hw) hne
  · rw [hreacted.watch_eq] at hw
    rcases hwithin.watches id with h | ⟨-, h⟩
    · rw [h, hnone] at hw
      cases hw
    · exact h w hw
  · rw [htu, State.settle_of_empty huempty, ← hlink m hm]
    exact State.link_react_arbitrate m
  · have hslot := State.slot_settle huempty ⟨m, k⟩
    have hsame : u.slot ⟨m, k⟩ = s.slot ⟨m, k⟩ := congrArg (fun l => l.slot k) (hwithin.link m hm)
    rw [hsame, ← htu] at hslot
    exact hslot

end Sys2Proof.Proofs
end
